-- ==== Sys2Proof/Word.lean ====
section
/-! DEFINITION. The word types of the block: the 16-bit register word (format RW, rule R81) and the widths of addresses and counts (R7), and the scaled value, format SC (R89). -/

namespace Sys2Proof

/-- One device register, format RW: 16 bits, unsigned, bit 0 the least significant (R10, R81). -/
abbrev Word := BitVec 16

/-- A device register address, `uint16` (`ADDR_W` of R7). -/
abbrev Addr := BitVec 16

/-- A register count, `uint8` (`CNT_W` of R7). -/
abbrev Count := BitVec 8

/-- A selector word, wide enough for the widest selector (RQ, 24 bits, R82). -/
abbrev SelWord := BitVec 24

/-- Format SC: the unsigned numerator of a scaled value, in hundredths (R12, R89). The fields of this type are the scaled
ones: dcVoltage, dcCurrent, dcTemperature, pvVoltage, loadCurrent, dailyYield, yieldPower, maxPowerToday, and the registers
`MAXP` and `YTD`. A scaled field shows with its divisor on its port (`scaledPort`). -/
abbrev Scaled (w : Nat) := BitVec w

end Sys2Proof
end

