-- ==== Sys2Proof/Config.lean ====
section
/-! DEFINITION. The parameters: those whose value the source fixes (R7), the OPEN ones (R8) as one opaque configuration, and the one free value of the model. -/

namespace Sys2Proof

/-! ### Parameters the source fixes (R7) -/

/-- `BLK1_BASE` (R7, R51). -/
def blk1Base : Addr := 0x3100#16
/-- `BLK2_BASE` (R7, R51). -/
def blk2Base : Addr := 0x3200#16
/-- `BLK3_BASE` (R7, R51). -/
def blk3Base : Addr := 0x3300#16

/-- `BLK1_LEN` (R7, R51). -/
abbrev blk1Len : Nat := 18
/-- `BLK2_LEN` (R7, R51). -/
abbrev blk2Len : Nat := 3
/-- `BLK3_LEN` (R7, R51). -/
abbrev blk3Len : Nat := 20

/-- `SCALE_DIV`: the one divisor of every scaled channel (R7, R12). It is a tag of the channel: the block never divides. -/
def scaleDiv : Nat := 100

/-- `FAIL_THRESHOLD`: consecutive failed ticks that terminate the block (R7, R147). -/
def failThreshold : Nat := 3

/-- `TICK_PERIOD_MS` (R7, D34): the environment's; no rule of the block reads it. -/
def tickPeriodMs : Nat := 1000

/-! ### OPEN parameters (R8) -/

/-- The OPEN parameters of R8. Each offset has the type of its legal range, so every `Config` is well formed in the
sense of R9; `RawConfig` (WellFormed.lean) is the unchecked form. `exitStatusPred + 1` is `EXIT_STATUS`, which R8 and
R37 only require to be non-zero. -/
structure Config where
  /-- `OFF_DCV`, bank 1. -/
  offDcv : Fin 18
  /-- `OFF_DCI`, bank 1. -/
  offDci : Fin 18
  /-- `OFF_DCT`, bank 1. -/
  offDct : Fin 18
  /-- `OFF_LDI`, bank 1. -/
  offLdi : Fin 18
  /-- `OFF_ST`, bank 2. -/
  offSt : Fin 3
  /-- `OFF_DY_LO`, bank 3. -/
  offDyLo : Fin 20
  /-- `OFF_DY_HI`, bank 3. -/
  offDyHi : Fin 20
  /-- `EXIT_STATUS` less one. -/
  exitStatusPred : Nat
deriving DecidableEq, Repr, Inhabited

/-- `EXIT_STATUS`: any non-zero value (R8, R37). -/
def Config.exitStatus (c : Config) : Nat := c.exitStatusPred + 1

/-- The configuration of the machine: OPEN (R8), so it has no body and no proof can see an offset. Log 11, 12. -/
opaque Config.active : Config

/-- PRESUMED. The defaults of R8, which the spec marks as general knowledge (G1 to G3). Used by tests only; no
definition of the machine reads it. Log 11. -/
def Config.default : Config :=
  { offDcv := 4, offDci := 5, offDct := 16, offLdi := 13, offSt := 1, offDyLo := 12, offDyHi := 13, exitStatusPred := 0 }

/-! ### Free value -/

/-- What FCINC leaves in the two bits of `FC` when they held 3. The spec states no value there: R146 and R28 say it is
never executed from 3, and 95_test_vectors.md has "no vector for `FCINC` from 3". The argument is a counter of State,
so that each use is free. Log 10. -/
opaque Config.fcincFromThree : Nat → BitVec 2

end Sys2Proof
end

