-- ==== Sys2Proof/Syntax.lean ====
section
/-! DEFINITION. Syntax: the 26 named operations of opcode_table.json, the four selector formats that key them (R80, R91 to R93), answers (R84), what the environment does (R14, R101) and what the block emits (R16). -/

namespace Sys2Proof

/-- The operations of the block: one constructor per row of opcode_table.json. The block runs no instruction stream
(R3, D20); these are the steps of its fixed algorithm. The Bool operands are the don't-care bits of the outcome
word (R93), in its bit order; no effect reads them (log 21). -/
inductive Instr where
  /-- `RDBLK1`: tick acceptance and issue of read 1 (R141). -/
  | rdblk1
  /-- `RDBLK2`: answer of read 1 and issue of read 2 (R142). -/
  | rdblk2
  /-- `RDBLK3`: answer of read 2 and issue of read 3 (R143). -/
  | rdblk3
  /-- `DEC.DCV`: dcVoltage (R112). -/
  | decDcv
  /-- `DEC.DCI`: dcCurrent (R113). -/
  | decDci
  /-- `DEC.DCT`: dcTemperature (R114). -/
  | decDct
  /-- `DEC.PVV`: pvVoltage (R115). -/
  | decPvv
  /-- `DEC.YP`: yieldPower, the multiply-add pair (R116). -/
  | decYp
  /-- `DEC.LDI`: loadCurrent (R117). -/
  | decLdi
  /-- `DEC.ST`: operatingState (R118). -/
  | decSt
  /-- `DEC.LDS`: loadState (R119). -/
  | decLds
  /-- `DEC.DY`: dailyYield, the shift-OR pair (R120). -/
  | decDy
  /-- `DEC.ERR`: errorCode (R121). -/
  | decErr
  /-- `OUT.MAXP`: the value of sink port 10 (R155). -/
  | outMaxp
  /-- `FCCLR`: clear the failure counter (R148). -/
  | fcclr
  /-- `CLAMP`: floor the raw PV-voltage register at 1 (R111). -/
  | clamp
  /-- `DECODE`: build the whole snapshot (R110). -/
  | decode
  /-- `PEAK`: rolling maximum of yieldPower (R149). -/
  | peak
  /-- `PUB`: publish snapshot and peak (R150). -/
  | pub
  /-- `FCINC`: count a failed tick (R146). -/
  | fcinc
  /-- `HALTCHK`: terminate at the threshold (R147). -/
  | haltchk
  /-- `TICK.OK`: the success path of a whole tick (R151). -/
  | tickOk
  /-- `TICK.F1`: failure at the first read (R152); e2, e3 are don't-care. -/
  | tickF1 (e2 e3 : Bool)
  /-- `TICK.F2`: failure at the second read (R153); e3 is don't-care. -/
  | tickF2 (e3 : Bool)
  /-- `TICK.F3`: failure at the third read, the torn read (R154). -/
  | tickF3
  /-- `TICK.NOP`: a tick while terminated (R145); e1, e2, e3 are don't-care. -/
  | tickNop (e1 e2 e3 : Bool)
deriving DecidableEq, Repr

/-- The four selector formats that key opcode_table.json (R80). A word alone does not say its format. -/
inductive Fmt where
  /-- RQ, the read request, 24 bits (R82). -/
  | request
  /-- FD, the sink port index, 4 bits (R91). -/
  | sinkPort
  /-- US, the micro-step index, 3 bits (R92). -/
  | microStep
  /-- TO, the tick outcome word, 4 bits (R93). -/
  | outcome
deriving DecidableEq, Repr

/-- The width of a selector format in bits (R82, R91, R92, R93). -/
def Fmt.width : Fmt → Nat
  | .request => 24
  | .sinkPort => 4
  | .microStep => 3
  | .outcome => 4

/-- A selector: a word together with the format it is read in. -/
structure Sel where
  fmt : Fmt
  word : SelWord
deriving DecidableEq, Repr

/-- The answer to a block read, format RS (R84): `Err`, which carries no cause (R53), or `Ok` with the words in offset
order. -/
inductive Answer where
  | err
  | ok (ws : List Word)
deriving DecidableEq, Repr

/-- What the environment does: the inputs of R14 and D1, and the script line of R101. -/
inductive EnvEvent where
  /-- Reset is asserted (R200). -/
  | reset
  /-- The tick strobe alone; the answers follow as events of their own (R141). -/
  | tick
  /-- The answer to the read in flight (R52, R142 to R144). -/
  | answer (r : Answer)
  /-- The answer to a read that a reset made the block forget (R202). -/
  | lateAnswer (r : Answer)
  /-- One whole script line `tick r1 r2 r3` (R101); `none` is `-`, an answer that is never asked for. -/
  | tickLine (r1 r2 r3 : Option Answer)
deriving DecidableEq, Repr

/-- The operating states, five legal values (R33, R36, R86). -/
inductive OpState where
  | off
  | float
  | boost
  | equalization
  | fault
deriving DecidableEq, Repr

/-- The TelemetrySnapshot: ten fields with the widths of R33. The fields of type `Scaled` are in format SC (R89). -/
structure Snapshot where
  dcVoltage : Scaled 16
  dcCurrent : Scaled 16
  dcTemperature : Scaled 16
  pvVoltage : Scaled 16
  yieldPower : Scaled 32
  loadCurrent : Scaled 16
  operatingState : OpState
  loadState : BitVec 1
  dailyYield : Scaled 24
  errorCode : BitVec 8
deriving DecidableEq, Repr

/-- The publish bundle, format PB (R90): the ten snapshot fields on ports 0 to 9 and `maxPowerToday` on port 10 (R35). -/
structure Bundle where
  snap : Snapshot
  maxPowerToday : Scaled 32
deriving DecidableEq, Repr

/-- The value on one sink port as the environment reads it (R35, R89). -/
inductive PortValue where
  /-- Format SC: a numerator tagged with the divisor it is scaled by (R89, R95). -/
  | scaled (num divisor : Nat)
  /-- An operating state, by name (R33, R36). -/
  | state (s : OpState)
  /-- An unscaled number (R33). -/
  | plain (n : Nat)
deriving DecidableEq, Repr

/-- An event of the block's output trace (R16). -/
inductive Event where
  /-- A block read is issued: base address and count (R52). -/
  | req (addr : Addr) (cnt : Count)
  /-- A publish, all eleven values at once (R62, R150). -/
  | pub (b : Bundle)
  /-- The block terminates (R147, R183). -/
  | halt
deriving DecidableEq, Repr

end Sys2Proof
end

