-- ==== Sys2Proof/WellFormed.lean ====
section
/-! DEFINITION. Well-formedness: the configuration (R9), and selector words (R83, R91, R92, R93, R97); script lines (R101) are checked, for the value of RUN they meet, by EnvEvent.wf in Machine/Operands.lean. An `Instr` has no operand that could be ill formed: its only operands are don't-care bits. -/

namespace Sys2Proof

/-- A configuration before it is checked: any natural numbers in the place of the parameters of R8. -/
structure RawConfig where
  offDcv : Nat
  offDci : Nat
  offDct : Nat
  offLdi : Nat
  offSt : Nat
  offDyLo : Nat
  offDyHi : Nat
  exitStatus : Nat
deriving DecidableEq, Repr

/-- A configuration is well formed when every offset lies in its legal range (R9, ranges of R8) and the exit status
is not zero (R8). No other constraint: two offsets may be equal, and a scalar channel may name offset 0 (R9, D32). -/
def RawConfig.wf (c : RawConfig) : Bool :=
  decide (c.offDcv < 18) && decide (c.offDci < 18) && decide (c.offDct < 18) && decide (c.offLdi < 18) &&
  decide (c.offSt < 3) && decide (c.offDyLo < 20) && decide (c.offDyHi < 20) && decide (c.exitStatus ≠ 0)

/-- The checked form of a raw configuration; an ill-formed one has none, so nothing is ever decoded under it
(R9, R15: a decode under an ill-formed configuration is refused). -/
def RawConfig.check (c : RawConfig) : Option Config :=
  if h : c.offDcv < 18 ∧ c.offDci < 18 ∧ c.offDct < 18 ∧ c.offLdi < 18 ∧ c.offSt < 3 ∧ c.offDyLo < 20 ∧ c.offDyHi < 20 ∧
      c.exitStatus ≠ 0 then
    some { offDcv := ⟨c.offDcv, h.1⟩
           offDci := ⟨c.offDci, h.2.1⟩
           offDct := ⟨c.offDct, h.2.2.1⟩
           offLdi := ⟨c.offLdi, h.2.2.2.1⟩
           offSt := ⟨c.offSt, h.2.2.2.2.1⟩
           offDyLo := ⟨c.offDyLo, h.2.2.2.2.2.1⟩
           offDyHi := ⟨c.offDyHi, h.2.2.2.2.2.2.1⟩
           exitStatusPred := c.exitStatus - 1 }
  else none

/-- The numbers a configuration stands for. -/
def Config.raw (c : Config) : RawConfig :=
  { offDcv := c.offDcv.val, offDci := c.offDci.val, offDct := c.offDct.val, offLdi := c.offLdi.val, offSt := c.offSt.val
    offDyLo := c.offDyLo.val, offDyHi := c.offDyHi.val, exitStatus := c.exitStatus }

/-- The selector words that name an operation (R83, R91, R92, R94); every other word is reserved (R97). -/
def Sel.wf (s : Sel) : Bool :=
  match s.fmt with
  | .request => decide (s.word = 0x310012#24 ∨ s.word = 0x320003#24 ∨ s.word = 0x330014#24)
  | .sinkPort => decide (s.word.toNat ≤ 10)
  | .microStep => decide (s.word.toNat ≤ 6)
  | .outcome => decide (s.word.toNat ≤ 15)

end Sys2Proof
end

