-- ==== Sys2Proof/Decode.lean ====
section
/-! DEFINITION. The decoder of selector words (R82, R83, R91 to R94, R97), total, rejecting by name; after it the encoder, and the host's reading of a table word. -/

namespace Sys2Proof

/-- Why a selector word names no operation (R97). -/
inductive DecodeError where
  /-- An RQ word other than the three of R83. -/
  | notARequest (addr : Addr) (cnt : Count)
  /-- A sink port index 11 to 15 (R91). -/
  | reservedPort (word : SelWord)
  /-- The micro-step index 7 (R92). -/
  | reservedMicroStep (word : SelWord)
  /-- A word with bits set above its format's width. -/
  | tooWide (fmt : Fmt) (word : SelWord)
deriving DecidableEq, Repr

/-- Format RQ: the address field, bits 23:8 (R82). -/
def rqAddr (w : SelWord) : Addr := w.extractLsb' 8 16

/-- Format RQ: the count field, bits 7:0 (R82). -/
def rqCnt (w : SelWord) : Count := w.extractLsb' 0 8

/-- The three requests of R83, by their fields. -/
def decodeRequest (w : SelWord) : Except DecodeError Instr :=
  if rqAddr w = 0x3100#16 ∧ rqCnt w = 18#8 then .ok .rdblk1
  else if rqAddr w = 0x3200#16 ∧ rqCnt w = 3#8 then .ok .rdblk2
  else if rqAddr w = 0x3300#16 ∧ rqCnt w = 20#8 then .ok .rdblk3
  else .error (.notARequest (rqAddr w) (rqCnt w))

/-- Selector FD, the sink port index (R91). -/
def decodeSinkPort (w : SelWord) : Except DecodeError Instr :=
  match w.toNat with
  | 0 => .ok .decDcv
  | 1 => .ok .decDci
  | 2 => .ok .decDct
  | 3 => .ok .decPvv
  | 4 => .ok .decYp
  | 5 => .ok .decLdi
  | 6 => .ok .decSt
  | 7 => .ok .decLds
  | 8 => .ok .decDy
  | 9 => .ok .decErr
  | 10 => .ok .outMaxp
  | _ => if w.toNat < 16 then .error (.reservedPort w) else .error (.tooWide .sinkPort w)

/-- Selector US, the micro-step index (R92). -/
def decodeMicroStep (w : SelWord) : Except DecodeError Instr :=
  match w.toNat with
  | 0 => .ok .fcclr
  | 1 => .ok .clamp
  | 2 => .ok .decode
  | 3 => .ok .peak
  | 4 => .ok .pub
  | 5 => .ok .fcinc
  | 6 => .ok .haltchk
  | _ => if w.toNat < 8 then .error (.reservedMicroStep w) else .error (.tooWide .microStep w)

/-- Selector TO, the outcome word `run e1 e2 e3` in bits 3, 2, 1, 0 (R93); every value of the four bits selects one
row (R94). -/
def decodeOutcome (w : SelWord) : Except DecodeError Instr :=
  if w.toNat < 16 then
    .ok (if w.getLsbD 3 then
           if w.getLsbD 2 then .tickF1 (w.getLsbD 1) (w.getLsbD 0)
           else if w.getLsbD 1 then .tickF2 (w.getLsbD 0)
           else if w.getLsbD 0 then .tickF3
           else .tickOk
         else .tickNop (w.getLsbD 2) (w.getLsbD 1) (w.getLsbD 0))
  else .error (.tooWide .outcome w)

/-- The decoder: total, and a word that names nothing is rejected by name (R97). -/
def decode (s : Sel) : Except DecodeError Instr :=
  match s.fmt with
  | .request => decodeRequest s.word
  | .sinkPort => decodeSinkPort s.word
  | .microStep => decodeMicroStep s.word
  | .outcome => decodeOutcome s.word

/-- The RQ word of a request, address on top (R82, D26). -/
def rqWord (addr : Addr) (cnt : Count) : SelWord := addr ++ cnt

/-- The outcome word `run e1 e2 e3` (R93). -/
def outcomeWord (run e1 e2 e3 : Bool) : SelWord :=
  (BitVec.ofBool run ++ BitVec.ofBool e1 ++ BitVec.ofBool e2 ++ BitVec.ofBool e3).setWidth 24

/-- The selector of an operation, written from R83, R91, R92 and R93. -/
def encode : Instr → Sel
  | .rdblk1 => ⟨.request, rqWord 0x3100#16 18#8⟩
  | .rdblk2 => ⟨.request, rqWord 0x3200#16 3#8⟩
  | .rdblk3 => ⟨.request, rqWord 0x3300#16 20#8⟩
  | .decDcv => ⟨.sinkPort, 0⟩
  | .decDci => ⟨.sinkPort, 1⟩
  | .decDct => ⟨.sinkPort, 2⟩
  | .decPvv => ⟨.sinkPort, 3⟩
  | .decYp => ⟨.sinkPort, 4⟩
  | .decLdi => ⟨.sinkPort, 5⟩
  | .decSt => ⟨.sinkPort, 6⟩
  | .decLds => ⟨.sinkPort, 7⟩
  | .decDy => ⟨.sinkPort, 8⟩
  | .decErr => ⟨.sinkPort, 9⟩
  | .outMaxp => ⟨.sinkPort, 10⟩
  | .fcclr => ⟨.microStep, 0⟩
  | .clamp => ⟨.microStep, 1⟩
  | .decode => ⟨.microStep, 2⟩
  | .peak => ⟨.microStep, 3⟩
  | .pub => ⟨.microStep, 4⟩
  | .fcinc => ⟨.microStep, 5⟩
  | .haltchk => ⟨.microStep, 6⟩
  | .tickOk => ⟨.outcome, outcomeWord true false false false⟩
  | .tickF1 e2 e3 => ⟨.outcome, outcomeWord true true e2 e3⟩
  | .tickF2 e3 => ⟨.outcome, outcomeWord true false true e3⟩
  | .tickF3 => ⟨.outcome, outcomeWord true false false true⟩
  | .tickNop e1 e2 e3 => ⟨.outcome, outcomeWord false e1 e2 e3⟩

/-- The format in which a bare word of the host's is read. The four selectors are separate key spaces and the words
overlap (0x3 is DEC.PVV, PEAK and TICK.NOP), so a word and a number of bytes cannot tell them apart. DESIGN CHOICE
(log 8): up to 3 bits US; up to a byte FD where a port index is legal and TO above it; wider RQ. -/
def tableSel (nbits w : Nat) : Sel :=
  if nbits ≤ 3 then ⟨.microStep, BitVec.ofNat 24 w⟩
  else if nbits ≤ 8 then ⟨if w ≤ 10 then .sinkPort else .outcome, BitVec.ofNat 24 w⟩
  else ⟨.request, BitVec.ofNat 24 w⟩

/-- What the decoder reads from a table word of `nbits` bits; words above 24 bits are refused. -/
def decodeTableWord (nbits w : Nat) : Option Instr :=
  if w < 2 ^ 24 then
    match decode (tableSel nbits w) with
    | .ok i => some i
    | .error _ => none
  else none

end Sys2Proof
end

