-- ==== Sys2Proof/Machine/State.lean ====
section
/-! DEFINITION. State: every piece of state of R20, plain data, with the model's own fields marked; the closed lists of faults and refusals; State.reset (R41). -/

namespace Sys2Proof.Machine

/-- `PH`, the sequencer phase, two bits: 0 IDLE, 1 W1, 2 W2, 3 W3 (R27). -/
inductive Phase where
  | idle
  | w1
  | w2
  | w3
deriving DecidableEq, Repr

/-- The errors of the block's taxonomy (R170). They are ordinary behaviour, not faults of the model (R15); no
register holds one. -/
inductive ErrorCause where
  /-- A bad answer to a block read (R171). -/
  | transportError
  /-- The third failed tick in a row (R172). -/
  | consecutiveFailureExhausted
  /-- DECODE invoked on a block of the wrong length (R173). -/
  | preconditionViolation
deriving DecidableEq, Repr

/-- What a machine stop can be. -/
inductive Fault where
  /-- Raised when an operation waits for the answer to a read and the environment gives none: "the model gives it no
  step" (R73, D21, U9: stuck). Safe: the hardware waits, the model stops. -/
  | readUnanswered
deriving DecidableEq, Repr

/-- The situations the spec gives no meaning (R15). Each is safe: the model refuses where an implementation may do
anything. -/
inductive Refusal where
  /-- Raised by exec's arm for an operation without a meaning; no arm does. Safe. -/
  | notModelled (mnemonic : String)
  /-- Raised by the step when the presented selector word is reserved (R97). Safe. -/
  | invalidSelector (e : DecodeError)
  /-- Raised by a tick strobe with `PH` not 0 (R158, D14). Safe. -/
  | tickDuringTick
  /-- Raised by an answer in a phase that awaits none or another one (R175). Safe. -/
  | answerNotAwaited
  /-- Raised by a tick operation presented without its strobe, its first operand (R141, R145, R151 to R154). Safe. -/
  | noTickStrobe
  /-- Raised by a tick outcome presented against `RUN` or the answers that its outcome word denotes (R93). Safe. -/
  | outcomeMismatch
  /-- Raised by a decode operation that reads a bank word the current tick has not written: "a refusal of the model"
  (R23, D17). Safe. -/
  | bankNotWritten
  /-- Raised by PEAK or PUB when the current tick has produced no snapshot to read (R33, R149, R150). Safe. -/
  | snapshotMissing
deriving DecidableEq, Repr

/-- The snapshot and bundle of the tick under way, field by field; a field is `none` until the operation that produces
it has run in this tick. "A transient value ... not kept by the block afterwards" (R33), the bundle of R90. Log 4. -/
structure Draft where
  dcVoltage : Option (Scaled 16)
  dcCurrent : Option (Scaled 16)
  dcTemperature : Option (Scaled 16)
  pvVoltage : Option (Scaled 16)
  yieldPower : Option (Scaled 32)
  loadCurrent : Option (Scaled 16)
  operatingState : Option OpState
  loadState : Option (BitVec 1)
  dailyYield : Option (Scaled 24)
  errorCode : Option (BitVec 8)
  maxPowerToday : Option (Scaled 32)
deriving DecidableEq, Repr

/-- Nothing produced yet. -/
def Draft.empty : Draft := ⟨none, none, none, none, none, none, none, none, none, none, none⟩

/-- The state of the block (R20), then the model's own fields. -/
structure State where
  /-- `RUN`: true is Running, false is Terminated (R26). -/
  run : Bool
  /-- `FC`, the FailureCounter (R28). -/
  fc : BitVec 2
  /-- `MAXP`, the running peak in hundredths (R29). -/
  maxp : Scaled 32
  /-- `YTD`, yieldToday: written and read by no operation (R30). -/
  ytd : Scaled 24
  /-- `PH`, the sequencer phase (R27); in W1, W2, W3 one request is outstanding (R39). -/
  ph : Phase
  /-- `B1[0..17]` (R21). -/
  b1 : Vector Word 18
  /-- `B2[0..2]` (R21). -/
  b2 : Vector Word 3
  /-- `B3[0..19]` (R21). -/
  b3 : Vector Word 20
  /-- The current tick has written `B1` (R23). -/
  b1w : Bool
  /-- The current tick has written `B2` (R23). -/
  b2w : Bool
  /-- The current tick has written `B3` (R23). -/
  b3w : Bool
  /-- `SNK[0..10]`, the picture of what the sink last accepted (R34). -/
  snk : Bundle
  /-- `SNK` holds a value: there was a publish since reset (R34, R41). -/
  snkHeld : Bool
  /-- The transient snapshot and bundle (R33, R90). -/
  draft : Draft
  /-- The MODEL's: what the environment does next (R14, R40, R101). Log 5. -/
  env : List EnvEvent
  /-- The MODEL's: the output trace since reset, oldest first (R13, R16). Log 6. -/
  trace : List Event
  /-- The MODEL's: a selector word presented to be run next (R97). Log 7. -/
  opSel : Option Sel
  /-- The MODEL's: the counter behind the free value `Config.fcincFromThree`. Log 10. -/
  freeIdx : Nat
deriving DecidableEq, Repr

/-- The `HALT` output: the complement of `RUN` (R37). -/
def State.haltOut (s : State) : Bool := !s.run

/-- The contents of `SNK` at reset, before `snkHeld` says there are any. DESIGN CHOICE, log 2. -/
def Bundle.zero : Bundle := ⟨⟨0, 0, 0, 0, 0, 0, .off, 0, 0, 0⟩, 0⟩

/-- The block right after reset (R41, R200): RUN 1, FC 0, MAXP 0, YTD 0, PH IDLE, banks and SNK without value (their
marks are false; the words under the marks are DESIGN CHOICE, log 1 and 2), and the model's own fields empty. -/
def State.reset : State where
  run := true
  fc := 0
  maxp := 0
  ytd := 0
  ph := .idle
  b1 := Vector.replicate 18 0
  b2 := Vector.replicate 3 0
  b3 := Vector.replicate 20 0
  b1w := false
  b2w := false
  b3w := false
  snk := Bundle.zero
  snkHeld := false
  draft := Draft.empty
  env := []
  trace := []
  opSel := none
  freeIdx := 0

end Sys2Proof.Machine
end

