-- ==== Sys2Proof/Machine/Operands.lean ====
section
/-! DEFINITION. Operands: answers (R54), formats ST, PM and PS (R85 to R88), the clamp (R111), every field of the snapshot from the banks (R95, R112 to R121), and how values are shown (R12, R35, R36). -/

namespace Sys2Proof

/-! ### Answers (R54, R84) -/

/-- `bad(r, n)` of R54: `Err`, or `Ok` of a length other than `n`. -/
def Answer.bad (r : Answer) (n : Nat) : Bool :=
  match r with
  | .err => true
  | .ok ws => decide (ws.length ≠ n)

/-- `good(r, n)` of R54. -/
def Answer.good (r : Answer) (n : Nat) : Bool := !r.bad n

/-- The words of an answer that is good for `n` registers, as a whole bank (R23); a bad answer has none. -/
def Answer.words (r : Answer) (n : Nat) : Option (Vector Word n) :=
  match r with
  | .err => none
  | .ok ws => if h : ws.length = n then some ⟨ws.toArray, by simpa using h⟩ else none

/-- The words of an answer of a script line; `-` has none (R101). -/
def lineWords (r : Option Answer) (n : Nat) : Option (Vector Word n) :=
  match r with
  | none => none
  | some a => a.words n

/-- The `e` bit of an answer of a script line (R93): 1 if the answer is bad; `-` is a don't-care, shown as 0. -/
def lineBad (r : Option Answer) (n : Nat) : Bool :=
  match r with
  | none => false
  | some a => a.bad n

/-- A script line is written as R101 asks, for a block whose `RUN` is `run`: after the first bad answer only `-`; and with
`RUN = 1` an answer stands wherever its read is issued. With `RUN = 0` no answer is asked for, so each may be `-` (V76) or
stand unused (P3 of 95_test_vectors.md, tick 7; log 31). Other events are always well written. -/
def EnvEvent.wf (run : Bool) : EnvEvent → Bool
  | .tickLine r1 r2 r3 =>
    (!lineBad r1 blk1Len || r2.isNone && r3.isNone) && (!lineBad r2 blk2Len || r3.isNone) &&
    (!run || r1.isSome && (lineBad r1 blk1Len || r2.isSome && (lineBad r2 blk2Len || r3.isSome)))
  | _ => true

/-! ### Formats (R85 to R88, R111) -/

/-- CLAMP on one word: `max(w, 1)`, that is, 0 becomes 1 and every other word is unchanged (R111). -/
def clampWord (w : Word) : Word := if w = 0 then 1 else w

/-- CLAMP on bank 1: word 0 is floored at 1, the others are unchanged (R111). -/
def clampBank (b1 : Vector Word 18) : Vector Word 18 := b1.set 0 (clampWord b1[0])

/-- Format PM, the multiply-add pair: `zext_32(hi) * 65536 + zext_32(lo)` (R87, R116). -/
def pairMulAdd (lo hi : Word) : BitVec 32 := hi.setWidth 32 * 65536#32 + lo.setWidth 32

/-- Format PS, the shift-OR pair: `zext_24(lo) | (zext_24(hi) << 8)` (R88, R120). -/
def pairShiftOr (lo hi : Word) : BitVec 24 := lo.setWidth 24 ||| (hi.setWidth 24 <<< 8)

/-- The fault bit of the status register, bit 1 (R85). -/
def statusFault (st : Word) : Bool := st.getLsbD 1

/-- The charge-stage code of the status register, `bit3 * 2 + bit2` (R85, R118). -/
def statusStage (st : Word) : Nat := (st.getLsbD 3).toNat * 2 + (st.getLsbD 2).toNat

/-- The fixed table [Off, Float, Boost, Equalization], indexed by the stage code (R86). -/
def stageTable : Nat → OpState
  | 0 => .off
  | 1 => .float
  | 2 => .boost
  | _ => .equalization

/-- The operating state of a status word: the fault bit first, unconditionally, then the table (R118). -/
def statusState (st : Word) : OpState := if statusFault st then .fault else stageTable (statusStage st)

/-! ### The fields of the snapshot (R95); `b1` is bank 1 after CLAMP -/

/-- DEC.DCV (R112). -/
def fieldDcv (c : Config) (b1 : Vector Word 18) : Scaled 16 := b1[c.offDcv]

/-- DEC.DCI (R113). -/
def fieldDci (c : Config) (b1 : Vector Word 18) : Scaled 16 := b1[c.offDci]

/-- DEC.DCT (R114). -/
def fieldDct (c : Config) (b1 : Vector Word 18) : Scaled 16 := b1[c.offDct]

/-- DEC.PVV (R115). -/
def fieldPvv (b1 : Vector Word 18) : Scaled 16 := b1[0]

/-- DEC.YP: low word at offset 2, high word at offset 3 (R57, R116). -/
def fieldYp (b1 : Vector Word 18) : Scaled 32 := pairMulAdd b1[2] b1[3]

/-- DEC.LDI (R117). -/
def fieldLdi (c : Config) (b1 : Vector Word 18) : Scaled 16 := b1[c.offLdi]

/-- DEC.ST (R118). -/
def fieldSt (c : Config) (b2 : Vector Word 3) : OpState := statusState b2[c.offSt]

/-- DEC.LDS: the constant `LOAD_STATE_CONST` (R119). -/
def fieldLds : BitVec 1 := 0

/-- DEC.DY (R120). -/
def fieldDy (c : Config) (b3 : Vector Word 20) : Scaled 24 := pairShiftOr b3[c.offDyLo] b3[c.offDyHi]

/-- DEC.ERR: the constant `ERROR_CODE_CONST` (R121, conflict C2). -/
def fieldErr : BitVec 8 := 0

/-- The TelemetryDecoder as a pure function of the configuration and the three banks: CLAMP first, then the ten fields
(R110, R122). -/
def decodeBanks (c : Config) (b1 : Vector Word 18) (b2 : Vector Word 3) (b3 : Vector Word 20) : Snapshot :=
  { dcVoltage := fieldDcv c (clampBank b1)
    dcCurrent := fieldDci c (clampBank b1)
    dcTemperature := fieldDct c (clampBank b1)
    pvVoltage := fieldPvv (clampBank b1)
    yieldPower := fieldYp (clampBank b1)
    loadCurrent := fieldLdi c (clampBank b1)
    operatingState := fieldSt c b2
    loadState := fieldLds
    dailyYield := fieldDy c b3
    errorCode := fieldErr }

/-! ### How values are shown -/

/-- The value a scaled numerator denotes: `N / 100`, exactly (R12, R89). -/
def scaledValue {w : Nat} (n : Scaled w) : ℚ := (n.toNat : ℚ) / (scaleDiv : ℚ)

/-- A scaled field on its port: the numerator, tagged with the one divisor (R89, R95). -/
def scaledPort {w : Nat} (n : Scaled w) : PortValue := .scaled n.toNat scaleDiv

/-- The printing code of an operating state (R36, D7: a convention of the spec, not the bus's code; log 27). -/
def OpState.code : OpState → BitVec 3
  | .off => 0
  | .float => 1
  | .boost => 2
  | .equalization => 3
  | .fault => 4

/-- The physical value a port value denotes, if it is in format SC: `num / divisor`, exactly (R89). -/
def PortValue.denotes : PortValue → Option ℚ
  | .scaled n d => some ((n : ℚ) / (d : ℚ))
  | .state _ => none
  | .plain _ => none

/-- The number printed for a port value: the numerator, the code of the state, or the number (R35, R36). -/
def PortValue.number : PortValue → Nat
  | .scaled n _ => n
  | .state s => s.code.toNat
  | .plain n => n

/-- The value of one sink port of a bundle, in the port order of R35 with its "Scaled" column; ports 11 and above do not
exist. -/
def Bundle.port (b : Bundle) : Nat → Option PortValue
  | 0 => some (scaledPort b.snap.dcVoltage)
  | 1 => some (scaledPort b.snap.dcCurrent)
  | 2 => some (scaledPort b.snap.dcTemperature)
  | 3 => some (scaledPort b.snap.pvVoltage)
  | 4 => some (scaledPort b.snap.yieldPower)
  | 5 => some (scaledPort b.snap.loadCurrent)
  | 6 => some (.state b.snap.operatingState)
  | 7 => some (.plain b.snap.loadState.toNat)
  | 8 => some (scaledPort b.snap.dailyYield)
  | 9 => some (.plain b.snap.errorCode.toNat)
  | 10 => some (scaledPort b.maxPowerToday)
  | _ => none

end Sys2Proof

namespace Sys2Proof.Machine

/-- The decoder on blocks of any length: a PreconditionViolation unless the lengths are exactly 18, 3 and 20; nothing is
padded or dropped (R123, R173). -/
def decodeBlocks (c : Config) (w1 w2 w3 : List Word) : Except ErrorCause Snapshot :=
  match (Answer.ok w1).words blk1Len, (Answer.ok w2).words blk2Len, (Answer.ok w3).words blk3Len with
  | some b1, some b2, some b3 => .ok (decodeBanks c b1 b2 b3)
  | _, _, _ => .error .preconditionViolation

/-- The value of `PH` as the number R27 gives it. -/
def Phase.code : Phase → BitVec 2
  | .idle => 0
  | .w1 => 1
  | .w2 => 2
  | .w3 => 3

/-- The code of an error cause, for tables only (R170, D18). -/
def ErrorCause.code : ErrorCause → Nat
  | .transportError => 1
  | .consecutiveFailureExhausted => 2
  | .preconditionViolation => 3

/-- What the environment reads on a sink port: nothing before the first publish (R34, U13), and nothing on the ports
that do not exist (R35). -/
def State.sinkPort (s : State) (p : Nat) : Option PortValue := if s.snkHeld then s.snk.port p else none

/-- What the block shows of `EXIT_STATUS`: the constant once it has terminated, nothing before (R37, R183). -/
def State.exitShown (s : State) : Option Nat := if s.run then none else some Config.active.exitStatus

end Sys2Proof.Machine
end

