-- ==== Sys2Proof/Machine/Flags.lean ====
section
/-! DEFINITION. Flags: `RUN` is the one status flag (R26) and the threshold test is the one thing that clears it (R147); the peak comparison (R149) and the outcome word's bits (R93). There are no arithmetic flags. -/

namespace Sys2Proof.Machine

/-- The test of HALTCHK: `FC >= FAIL_THRESHOLD` (R147). -/
def haltDue (fc : BitVec 2) : Bool := decide (failThreshold ≤ fc.toNat)

/-- The test of PEAK: strictly greater, unsigned, 32 bits (R149). -/
def newPeak (yieldPower maxp : Scaled 32) : Bool := decide (maxp.toNat < yieldPower.toNat)

/-- The outcome word of a script line (R93): `run` is `RUN`, each `e` bit the badness of its answer. With `RUN = 1` the
word is known only if every answer that is asked for stands in the line; `none` is a read that is never answered. -/
def lineOutcome (run : Bool) (r1 r2 r3 : Option Answer) : Option SelWord :=
  if run then
    if r1.isNone then none
    else if lineBad r1 blk1Len then some (outcomeWord true true (lineBad r2 blk2Len) (lineBad r3 blk3Len))
    else if r2.isNone then none
    else if lineBad r2 blk2Len then some (outcomeWord true false true (lineBad r3 blk3Len))
    else if r3.isNone then none
    else some (outcomeWord true false false (lineBad r3 blk3Len))
  else some (outcomeWord false (lineBad r1 blk1Len) (lineBad r2 blk2Len) (lineBad r3 blk3Len))

end Sys2Proof.Machine
end

