-- ==== Sys2Proof/Machine/Ops.lean ====
section
/-! DEFINITION. Ops: the named updates of State, the shared operations over them, and the response to a TransportError (R178) as ONE operation. There is no return operation (R181). -/

namespace Sys2Proof.Machine

/-- What every operation answers. -/
abbrev Result := Host.Outcome State Fault Refusal

/-- Do `f` after an operation that answered a next state; a stop stays a stop. -/
def andThen (o : Result) (f : State → Result) : Result :=
  match o with
  | .next s => f s
  | .fault r => .fault r
  | .refused r => .refused r

/-! ### Named updates: each writes the fields it names and nothing else -/

/-- `emit e`: the event is appended to the output trace (R13). -/
def State.emit (s : State) (e : Event) : State := { s with trace := s.trace ++ [e] }

/-- The environment's next event has been taken. -/
def State.dropEvent (s : State) : State := { s with env := s.env.tail }

/-- The presented selector word has been taken. -/
def State.clearSel (s : State) : State := { s with opSel := none }

/-- `PH <- p` (R27). -/
def State.setPh (s : State) (p : Phase) : State := { s with ph := p }

/-- `FC <- v` (R28). -/
def State.setFc (s : State) (v : BitVec 2) : State := { s with fc := v }

/-- The free value's counter advances (log 10). -/
def State.bumpFree (s : State) : State := { s with freeIdx := s.freeIdx + 1 }

/-- `RUN <- 0` (R147). -/
def State.terminate (s : State) : State := { s with run := false }

/-- `MAXP <- v` (R149). -/
def State.setMaxp (s : State) (v : Scaled 32) : State := { s with maxp := v }

/-- `B1 <- ws`: the whole bank, now written in this tick (R23). -/
def State.loadB1 (s : State) (ws : Vector Word 18) : State := { s with b1 := ws, b1w := true }

/-- `B2 <- ws` (R23). -/
def State.loadB2 (s : State) (ws : Vector Word 3) : State := { s with b2 := ws, b2w := true }

/-- `B3 <- ws` (R23). -/
def State.loadB3 (s : State) (ws : Vector Word 20) : State := { s with b3 := ws, b3w := true }

/-- CLAMP's overwrite of `B1[0]` (R111, D30). -/
def State.clampB1 (s : State) : State := { s with b1 := clampBank s.b1 }

/-- The transient snapshot and bundle become `d` (R33, R90). -/
def State.setDraft (s : State) (d : Draft) : State := { s with draft := d }

/-- `SNK[p] <- the p-th value`, for all eleven ports at once (R62, R150). -/
def State.setSnk (s : State) (b : Bundle) : State := { s with snk := b, snkHeld := true }

/-- The data of a tick end with it: no bank counts as written and no snapshot is kept (R23, R33, R178). -/
def State.discard (s : State) : State := { s with b1w := false, b2w := false, b3w := false, draft := Draft.empty }

/-! ### Requests (R52, R83) -/

/-- `emit REQ(0x3100, 18)` (R141). -/
def State.request1 (s : State) : State := s.emit (.req blk1Base 18#8)

/-- `emit REQ(0x3200, 3)` (R142). -/
def State.request2 (s : State) : State := s.emit (.req blk2Base 3#8)

/-- `emit REQ(0x3300, 20)` (R143). -/
def State.request3 (s : State) : State := s.emit (.req blk3Base 20#8)

/-! ### The failure counter and termination (R146 to R148, R172, R183) -/

/-- FCINC: `FC <- FC + 1` (R146). From 3 the two bits cannot hold the sum and the spec states no value: a free value
(log 10). -/
def fcIncrement (s : State) : State :=
  if s.fc = 3 then (s.setFc (Config.fcincFromThree s.freeIdx)).bumpFree else s.setFc (s.fc + 1)

/-- HALTCHK: `if FC >= 3 then RUN <- 0; emit HALT` (R147). -/
def haltCheck (s : State) : State := if haltDue s.fc then s.terminate.emit .halt else s

/-- FCCLR: `FC <- 0` (R148). -/
def fcClear (s : State) : State := s.setFc 0

/-- The tick is over: `PH <- 0`, and its banks and snapshot are no longer kept (R144, R33, R23). -/
def endTick (s : State) : State := (s.setPh .idle).discard

/-- What happens on a TransportError, exactly (R178): the increment, then the threshold test (R177), then `PH <- 0`, and
whatever banks the tick had filled are discarded. Nothing is saved; there is no handler and no return (R181). -/
def transportError (s : State) : State := endTick (haltCheck (fcIncrement s))

/-! ### The decoder over the banks of State (R23, R111 to R121) -/

/-- Read bank 1, as every field operation reads it: after CLAMP (R111, R212; log 23). A word the current tick has not
written is a refusal (R23). -/
def withBank1 (s : State) (f : Vector Word 18 → Result) : Result :=
  if s.b1w then f (clampBank s.b1) else .refused .bankNotWritten

/-- Read bank 2 (R23). -/
def withBank2 (s : State) (f : Vector Word 3 → Result) : Result :=
  if s.b2w then f s.b2 else .refused .bankNotWritten

/-- Read bank 3 (R23). -/
def withBank3 (s : State) (f : Vector Word 20 → Result) : Result :=
  if s.b3w then f s.b3 else .refused .bankNotWritten

/-- A snapshot placed in the draft, all ten fields; port 10 is not the decoder's. -/
def Draft.withSnapshot (d : Draft) (p : Snapshot) : Draft :=
  { dcVoltage := some p.dcVoltage
    dcCurrent := some p.dcCurrent
    dcTemperature := some p.dcTemperature
    pvVoltage := some p.pvVoltage
    yieldPower := some p.yieldPower
    loadCurrent := some p.loadCurrent
    operatingState := some p.operatingState
    loadState := some p.loadState
    dailyYield := some p.dailyYield
    errorCode := some p.errorCode
    maxPowerToday := d.maxPowerToday }

/-- The snapshot of the draft, if the tick has produced every field. -/
def Draft.snapshot (d : Draft) : Option Snapshot :=
  match d.dcVoltage, d.dcCurrent, d.dcTemperature, d.pvVoltage, d.yieldPower, d.loadCurrent, d.operatingState, d.loadState,
    d.dailyYield, d.errorCode with
  | some v0, some v1, some v2, some v3, some v4, some v5, some v6, some v7, some v8, some v9 =>
    some ⟨v0, v1, v2, v3, v4, v5, v6, v7, v8, v9⟩
  | _, _, _, _, _, _, _, _, _, _ => none

/-- The bundle of the draft: the snapshot on ports 0 to 9 and the peak on port 10 (R90). -/
def Draft.bundle (d : Draft) : Option Bundle :=
  match d.snapshot, d.maxPowerToday with
  | some p, some m => some ⟨p, m⟩
  | _, _ => none

/-- CLAMP over State (R111). -/
def clampOp (s : State) : Result := if s.b1w then .next s.clampB1 else .refused .bankNotWritten

/-- DECODE over State: CLAMP, then the ten fields of the snapshot (R110). -/
def decodeOp (s : State) : Result :=
  if s.b1w && s.b2w && s.b3w then
    .next (s.clampB1.setDraft (s.draft.withSnapshot (decodeBanks Config.active s.b1 s.b2 s.b3)))
  else .refused .bankNotWritten

/-! ### Peak and publish (R149, R150, R155) -/

/-- PEAK: `if snap.yieldPower > MAXP then MAXP <- snap.yieldPower` (R149). -/
def peakOp (s : State) : Result :=
  match s.draft.yieldPower with
  | some yp => .next (if newPeak yp s.maxp then s.setMaxp yp else s)
  | none => .refused .snapshotMissing

/-- OUT.MAXP: port 10 of the bundle is `MAXP` as it stands (R155). -/
def outMaxpOp (s : State) : State := s.setDraft { s.draft with maxPowerToday := some s.maxp }

/-- PUB: the snapshot of this tick and `MAXP`, as one event and in all eleven sink ports (R150). -/
def publishOp (s : State) : Result :=
  match (outMaxpOp s).draft.bundle with
  | some b => .next (((outMaxpOp s).emit (.pub b)).setSnk b)
  | none => .refused .snapshotMissing

/-- What a full success does once the third bank is written: FCCLR, DECODE, PEAK, PUB, in this order, and the tick is
over (R140, R144, R151). -/
def succeed (s : State) : Result :=
  andThen (decodeOp (fcClear s)) fun s => andThen (peakOp s) fun s => andThen (publishOp s) fun s => .next (endTick s)

/-! ### Answers to the read in flight (R142 to R144) -/

/-- Take the answer to the read of `n` registers awaited in phase `p`: a good one hands its words on, a bad one is a
TransportError (R171); without an answer there is no step (R73); in another phase none is awaited (R175). -/
def onAnswer (s : State) (p : Phase) (n : Nat) (good : Vector Word n → State → Result) : Result :=
  if s.ph = p then
    match s.env with
    | .answer r :: _ =>
      match r.words n with
      | some ws => good ws s.dropEvent
      | none => .next (transportError s.dropEvent)
    | _ => .fault .readUnanswered
  else .refused .answerNotAwaited

/-! ### Whole ticks (R140) -/

/-- The beginning of every tick: the strobe is taken, the banks hold no value of this tick (R23), read 1 is issued. -/
def beginTick (s : State) : State := (s.dropEvent.discard).request1

/-- The operands of a whole-tick operation with `run = 1`: a script line, `RUN = 1` and `PH = 0`; otherwise why there
is no such tick (R93, R158). -/
def onTickLine (s : State) (f : Option Answer → Option Answer → Option Answer → Result) : Result :=
  match s.env with
  | .tickLine r1 r2 r3 :: _ =>
    if !s.run then .refused .outcomeMismatch
    else if s.ph = .idle then f r1 r2 r3
    else .refused .tickDuringTick
  | _ => .refused .noTickStrobe

end Sys2Proof.Machine
end

