-- ==== Sys2Proof/Machine/Decoder.lean ====
section
/-! DEFINITION. The meanings of the TelemetryDecoder's operations: CLAMP, DECODE and the ten DEC rows (40_decode_ops.md, R110 to R121). -/

namespace Sys2Proof.Machine

/-- `CLAMP` (R111): `B1[0] <- max(B1[0], 1)`. -/
def execClamp (s : State) : Result := clampOp s

/-- `DECODE` (R110): CLAMP, then the whole snapshot. -/
def execDecode (s : State) : Result := decodeOp s

/-- `DEC.DCV` (R112): `snap.dcVoltage <- B1[OFF_DCV]`. -/
def execDecDcv (s : State) : Result :=
  withBank1 s fun b1 => .next (s.setDraft { s.draft with dcVoltage := some (fieldDcv Config.active b1) })

/-- `DEC.DCI` (R113): `snap.dcCurrent <- B1[OFF_DCI]`. -/
def execDecDci (s : State) : Result :=
  withBank1 s fun b1 => .next (s.setDraft { s.draft with dcCurrent := some (fieldDci Config.active b1) })

/-- `DEC.DCT` (R114): `snap.dcTemperature <- B1[OFF_DCT]`. -/
def execDecDct (s : State) : Result :=
  withBank1 s fun b1 => .next (s.setDraft { s.draft with dcTemperature := some (fieldDct Config.active b1) })

/-- `DEC.PVV` (R115): `snap.pvVoltage <- B1[0]`, already clamped. -/
def execDecPvv (s : State) : Result :=
  withBank1 s fun b1 => .next (s.setDraft { s.draft with pvVoltage := some (fieldPvv b1) })

/-- `DEC.YP` (R116): `snap.yieldPower <- B1[3] * 65536 + B1[2]`. -/
def execDecYp (s : State) : Result :=
  withBank1 s fun b1 => .next (s.setDraft { s.draft with yieldPower := some (fieldYp b1) })

/-- `DEC.LDI` (R117): `snap.loadCurrent <- B1[OFF_LDI]`. -/
def execDecLdi (s : State) : Result :=
  withBank1 s fun b1 => .next (s.setDraft { s.draft with loadCurrent := some (fieldLdi Config.active b1) })

/-- `DEC.ST` (R118): the operating state of `B2[OFF_ST]`. -/
def execDecSt (s : State) : Result :=
  withBank2 s fun b2 => .next (s.setDraft { s.draft with operatingState := some (fieldSt Config.active b2) })

/-- `DEC.LDS` (R119): `snap.loadState <- 0`. -/
def execDecLds (s : State) : Result := .next (s.setDraft { s.draft with loadState := some fieldLds })

/-- `DEC.DY` (R120): `snap.dailyYield <- B3[OFF_DY_LO] | (B3[OFF_DY_HI] << 8)`. -/
def execDecDy (s : State) : Result :=
  withBank3 s fun b3 => .next (s.setDraft { s.draft with dailyYield := some (fieldDy Config.active b3) })

/-- `DEC.ERR` (R121): `snap.errorCode <- 0`. -/
def execDecErr (s : State) : Result := .next (s.setDraft { s.draft with errorCode := some fieldErr })

end Sys2Proof.Machine
end

