-- ==== Sys2Proof/Machine/PollCycle.lean ====
section
/-! DEFINITION. The meanings of the PollCycle's micro-steps and block reads (41_pollcycle_ops.md, R141 to R143, R146 to R150, R155), and the answer step R144, which has no encoding of its own. -/

namespace Sys2Proof.Machine

/-- `RDBLK1` (R141): when the strobe arrives with `RUN = 1` and `PH = 0`, read 1 is issued and `PH <- 1`. With `RUN = 0`
the strobe does nothing (R145); inside a tick it has no step (R158). -/
def execRdblk1 (s : State) : Result :=
  match s.env with
  | .tick :: _ =>
    if !s.run then .next s.dropEvent
    else if s.ph = .idle then .next ((beginTick s).setPh .w1)
    else .refused .tickDuringTick
  | _ => .refused .noTickStrobe

/-- `RDBLK2` (R142): the answer of read 1; good, it fills `B1` and read 2 is issued. -/
def execRdblk2 (s : State) : Result :=
  onAnswer s .w1 blk1Len fun ws s => .next (((s.loadB1 ws).request2).setPh .w2)

/-- `RDBLK3` (R143): the answer of read 2; good, it fills `B2` and read 3 is issued. -/
def execRdblk3 (s : State) : Result :=
  onAnswer s .w2 blk2Len fun ws s => .next (((s.loadB2 ws).request3).setPh .w3)

/-- The answer of read 3 (R144): good, it fills `B3` and the tick succeeds. No row of the table: the sequencer's own. -/
def closeTick (s : State) : Result :=
  onAnswer s .w3 blk3Len fun ws s => succeed (s.loadB3 ws)

/-- `FCCLR` (R148): `FC <- 0`. -/
def execFcclr (s : State) : Result := .next (fcClear s)

/-- `FCINC` (R146): `FC <- FC + 1`. -/
def execFcinc (s : State) : Result := .next (fcIncrement s)

/-- `HALTCHK` (R147): `if FC >= 3 then RUN <- 0; emit HALT`. -/
def execHaltchk (s : State) : Result := .next (haltCheck s)

/-- `PEAK` (R149): `if snap.yieldPower > MAXP then MAXP <- snap.yieldPower`. -/
def execPeak (s : State) : Result := peakOp s

/-- `PUB` (R150): publish the snapshot and the peak. -/
def execPub (s : State) : Result := publishOp s

/-- `OUT.MAXP` (R155): port 10 of the bundle is `MAXP`. -/
def execOutMaxp (s : State) : Result := .next (outMaxpOp s)

end Sys2Proof.Machine
end

