-- ==== Sys2Proof/Machine/Tick.lean ====
section
/-! DEFINITION. The meanings of the tick outcomes: one whole tick as one step (41_pollcycle_ops.md, R140, R145, R151 to R154). -/

namespace Sys2Proof.Machine

/-- `TICK.OK` (R151): three good answers; REQ, REQ, REQ, FCCLR, DECODE, PEAK, PUB. -/
def execTickOk (s : State) : Result :=
  onTickLine s fun r1 r2 r3 =>
    match lineWords r1 blk1Len, lineWords r2 blk2Len, lineWords r3 blk3Len with
    | some w1, some w2, some w3 =>
      succeed ((((((beginTick s).loadB1 w1).request2).loadB2 w2).request3).loadB3 w3)
    | _, _, _ => .refused .outcomeMismatch

/-- `TICK.F1` (R152): answer 1 is bad; reads 2 and 3 are not issued. -/
def execTickF1 (s : State) : Result :=
  onTickLine s fun r1 _ _ =>
    if lineBad r1 blk1Len then .next (transportError (beginTick s)) else .refused .outcomeMismatch

/-- `TICK.F2` (R153): answer 1 is good, answer 2 is bad; read 3 is not issued. -/
def execTickF2 (s : State) : Result :=
  onTickLine s fun r1 r2 _ =>
    match lineWords r1 blk1Len with
    | some w1 =>
      if lineBad r2 blk2Len then .next (transportError (((beginTick s).loadB1 w1).request2))
      else .refused .outcomeMismatch
    | none => .refused .outcomeMismatch

/-- `TICK.F3` (R154): answers 1 and 2 are good, answer 3 is bad: the torn read. -/
def execTickF3 (s : State) : Result :=
  onTickLine s fun r1 r2 r3 =>
    match lineWords r1 blk1Len, lineWords r2 blk2Len with
    | some w1, some w2 =>
      if lineBad r3 blk3Len then
        .next (transportError (((((beginTick s).loadB1 w1).request2).loadB2 w2).request3))
      else .refused .outcomeMismatch
    | _, _ => .refused .outcomeMismatch

/-- `TICK.NOP` (R145): a tick while terminated does nothing; the strobe is taken and that is all. -/
def execTickNop (s : State) : Result :=
  match s.env with
  | .tick :: _ => if s.run then .refused .outcomeMismatch else .next s.dropEvent
  | .tickLine _ _ _ :: _ => if s.run then .refused .outcomeMismatch else .next s.dropEvent
  | _ => .refused .noTickStrobe

end Sys2Proof.Machine
end

