-- ==== Sys2Proof/Machine/Dispatch.lean ====
section
/-! DEFINITION. Dispatch: one arm per constructor of Instr, each one direct call of its meaning. -/

namespace Sys2Proof.Machine

def exec (i : Instr) (s : State) : Host.Outcome State Fault Refusal :=
  match i with
  | .rdblk1 => Sys2Proof.Machine.execRdblk1 s
  | .rdblk2 => Sys2Proof.Machine.execRdblk2 s
  | .rdblk3 => Sys2Proof.Machine.execRdblk3 s
  | .decDcv => Sys2Proof.Machine.execDecDcv s
  | .decDci => Sys2Proof.Machine.execDecDci s
  | .decDct => Sys2Proof.Machine.execDecDct s
  | .decPvv => Sys2Proof.Machine.execDecPvv s
  | .decYp => Sys2Proof.Machine.execDecYp s
  | .decLdi => Sys2Proof.Machine.execDecLdi s
  | .decSt => Sys2Proof.Machine.execDecSt s
  | .decLds => Sys2Proof.Machine.execDecLds s
  | .decDy => Sys2Proof.Machine.execDecDy s
  | .decErr => Sys2Proof.Machine.execDecErr s
  | .outMaxp => Sys2Proof.Machine.execOutMaxp s
  | .fcclr => Sys2Proof.Machine.execFcclr s
  | .clamp => Sys2Proof.Machine.execClamp s
  | .decode => Sys2Proof.Machine.execDecode s
  | .peak => Sys2Proof.Machine.execPeak s
  | .pub => Sys2Proof.Machine.execPub s
  | .fcinc => Sys2Proof.Machine.execFcinc s
  | .haltchk => Sys2Proof.Machine.execHaltchk s
  | .tickOk => Sys2Proof.Machine.execTickOk s
  | .tickF1 _ _ => Sys2Proof.Machine.execTickF1 s
  | .tickF2 _ => Sys2Proof.Machine.execTickF2 s
  | .tickF3 => Sys2Proof.Machine.execTickF3 s
  | .tickNop _ _ _ => Sys2Proof.Machine.execTickNop s

end Sys2Proof.Machine
end

