-- ==== Sys2Proof/Machine/Sequencer.lean ====
section
/-! DEFINITION. The sequencer: what it does next in a state (R14, R15, R25 to R27, R175 to R177), reset (R200 to R202), and how a selector word is placed for the next step. -/

namespace Sys2Proof.Machine

/-- What the sequencer does next. -/
inductive Selection where
  /-- Reset is asserted (R200). -/
  | reset
  /-- An operation, by its selector. -/
  | op (sel : Sel)
  /-- The answer of read 3 (R144), which has no selector. -/
  | close
  /-- The environment's event has no effect and is taken (R183, R202). -/
  | ignore
  /-- Nothing arrives and nothing is awaited: the block does nothing (R191, R203). -/
  | rest
  /-- A read is outstanding and no answer comes (R73). -/
  | stuck
  /-- The situation has no meaning (R15). -/
  | refuse (r : Refusal)
deriving DecidableEq, Repr

/-- The operation an answer belongs to, by the phase that awaits it (R142 to R144); in IDLE none is awaited (R175). -/
def selectAnswer (p : Phase) : Selection :=
  match p with
  | .idle => .refuse .answerNotAwaited
  | .w1 => .op (encode .rdblk2)
  | .w2 => .op (encode .rdblk3)
  | .w3 => .close

/-- What the environment's next event selects. Reset wins over every step in progress (R177(e), R202). With `RUN = 0` a tick is TICK.NOP and
everything else but reset has no effect (R145, R183). -/
def selectEvent (s : State) : Selection :=
  match s.env with
  | [] => if !s.run || s.ph = .idle then .rest else .stuck
  | .reset :: _ => .reset
  | .tick :: _ =>
    if !s.run then .op ⟨.outcome, outcomeWord false false false false⟩
    else if s.ph = .idle then .op (encode .rdblk1)
    else .refuse .tickDuringTick
  | .answer _ :: _ => if !s.run then .ignore else selectAnswer s.ph
  | .lateAnswer _ :: _ => .ignore
  | .tickLine r1 r2 r3 :: _ =>
    if s.run && s.ph ≠ .idle then .refuse .tickDuringTick
    else
      match lineOutcome s.run r1 r2 r3 with
      | some w => .op ⟨.outcome, w⟩
      | none => .stuck

/-- What the sequencer does next: a presented selector word (log 7), and without one the environment's next event. -/
def select (s : State) : Selection :=
  match s.opSel with
  | some sel => .op sel
  | none => selectEvent s

/-- Reset (R200, R202): every piece of state at the value of R41; a tick under way is abandoned. Only the environment's
remaining script and the free value's counter, which are not the block's, go on. -/
def applyReset (s : State) : State := { State.reset with env := s.env.tail, freeIdx := s.freeIdx }

/-- Words for a placed block-read answer: a good answer of zeros. -/
def zeroAnswer (n : Nat) : Answer := .ok (List.replicate n 0)

/-- An answer that is bad or good as its `e` bit says (R93). -/
def answerOfBit (e : Bool) (n : Nat) : Answer := if e then .err else zeroAnswer n

/-- A state in which the sequencer's next step runs the selector (log 9). A request is selected by phase and event, so
these are set: `PH`, `RUN = 1` and the strobe or a good answer. An outcome word IS `RUN` and the badness of the three
answers (R93), so these are set. Port and micro-step selectors are presented in `opSel`, on the path where they are
selected: the three banks count as written in this tick (R23), and before PEAK and PUB, DECODE has produced the snapshot
they read (R140). -/
def placeSel (s : State) (sel : Sel) : State :=
  match sel.fmt with
  | .request =>
    if sel = encode .rdblk1 then { s with opSel := none, run := true, ph := .idle, env := .tick :: s.env }
    else if sel = encode .rdblk2 then
      { s with opSel := none, run := true, ph := .w1, env := .answer (zeroAnswer blk1Len) :: s.env }
    else if sel = encode .rdblk3 then
      { s with opSel := none, run := true, ph := .w2, env := .answer (zeroAnswer blk2Len) :: s.env }
    else { s with opSel := some sel }
  | .outcome =>
    if sel.word.toNat < 16 then
      { s with
        opSel := none
        run := sel.word.getLsbD 3
        ph := .idle
        env := .tickLine (some (answerOfBit (sel.word.getLsbD 2) blk1Len)) (some (answerOfBit (sel.word.getLsbD 1) blk2Len))
          (some (answerOfBit (sel.word.getLsbD 0) blk3Len)) :: s.env }
    else { s with opSel := some sel }
  | .sinkPort => { s with opSel := some sel, b1w := true, b2w := true, b3w := true }
  | .microStep =>
    if sel = encode .peak ∨ sel = encode .pub then
      { s with
        opSel := some sel, b1w := true, b2w := true, b3w := true
        draft := s.draft.withSnapshot (decodeBanks Config.active s.b1 s.b2 s.b3) }
    else { s with opSel := some sel, b1w := true, b2w := true, b3w := true }

end Sys2Proof.Machine
end

