-- ==== Sys2Proof/Machine/Step.lean ====
section
/-! DEFINITION. Step: select, decode, execute (R14, R15). -/

namespace Sys2Proof.Machine

/-- One step of the sequencer. -/
def step (s : State) : Host.Outcome State Fault Refusal :=
  match select s with
  | .reset => .next (applyReset s)
  | .op sel =>
    match decode sel with
    | .ok i => exec i s.clearSel
    | .error e => .refused (.invalidSelector e)
  | .close => closeTick s
  | .ignore => .next s.dropEvent
  | .rest => .next s
  | .stuck => .fault .readUnanswered
  | .refuse r => .refused r

/-- The state in which the next step runs the instruction of a table word (log 8, 9). -/
def State.withFetchWord (s : State) (nbits w : Nat) : State := placeSel s (tableSel nbits w)

end Sys2Proof.Machine
end

