-- ==== Sys2Proof/Safety.lean ====
section
/-! DEFINITION. Safety: what counts as a good state and a good trace (R31, R16, R34, R39, R66), script lines that fail or succeed (R101), runs of steps, and the expected outcome of a failed tick, in the terms the statements use. -/

namespace Sys2Proof.Machine

/-! ### Script lines -/

/-- An answer that stands in the line and is good for `n` registers (R54, R101). -/
def lineGood (r : Option Answer) (n : Nat) : Bool :=
  match r with
  | none => false
  | some a => a.good n

/-- A tick with these answers is fully successful: all three reads are good (R151). -/
def lineSucceeds (r1 r2 r3 : Option Answer) : Bool := lineGood r1 18 && lineGood r2 3 && lineGood r3 20

/-- A tick with these answers fails, at its first, second or third read (R152, R153, R154). -/
def lineFails (r1 r2 r3 : Option Answer) : Bool :=
  lineBad r1 18 || (lineGood r1 18 && lineBad r2 3) || (lineGood r1 18 && lineGood r2 3 && lineBad r3 20)

/-- The small-step events of a script line: the strobe, then the answers that are asked for (R101, R140 to R144). A
terminated block asks for none (R145). -/
def lineEvents (run : Bool) (r1 r2 r3 : Option Answer) : List EnvEvent :=
  if run then
    .tick :: (match r1 with
      | none => []
      | some a1 => .answer a1 :: (if a1.bad 18 then [] else
        match r2 with
        | none => []
        | some a2 => .answer a2 :: (if a2.bad 3 then [] else
          match r3 with
          | none => []
          | some a3 => [.answer a3])))
  else [.tick]

/-! ### Runs -/

/-- `k` steps of the machine, stopping at the first fault or refusal (`runSteps_eq_run` in Laws: Host.Core.run). -/
def runSteps : Nat → State → Result
  | 0, s => .next s
  | k + 1, s => andThen (step s) (runSteps k)

/-- Run operations one after another by their meanings. -/
def runOps : List Instr → State → Result
  | [], s => .next s
  | i :: is, s => andThen (exec i s) (runOps is)

/-- The ten field operations of DECODE, in the order of R110. -/
def fieldOps : List Instr :=
  [.decDcv, .decDci, .decDct, .decPvv, .decYp, .decLdi, .decSt, .decLds, .decDy, .decErr]

/-! ### What a failed tick leaves (R146, R147, R178) -/

/-- One more failed tick brings the count to the threshold (R146, R147). -/
def thirdFailure (fc : BitVec 2) : Bool := decide (3 ≤ fc.toNat + 1)

/-- The state after a failed tick from a state with `FC` below 3: the environment's script goes on with `rest`, the
events `evs` were emitted (then HALT if this failure is the third), the count is one more. -/
def failedTick (s : State) (rest : List EnvEvent) (evs : List Event) : State :=
  { s with
    env := rest
    fc := s.fc + 1
    run := !thirdFailure s.fc
    ph := .idle
    b1w := false
    b2w := false
    b3w := false
    draft := Draft.empty
    trace := s.trace ++ evs ++ (if thirdFailure s.fc then [.halt] else []) }

/-! ### Traces -/

/-- The request of block 1 (R51). -/
def req1 : Event := .req 0x3100#16 18#8
/-- The request of block 2 (R51). -/
def req2 : Event := .req 0x3200#16 3#8
/-- The request of block 3 (R51). -/
def req3 : Event := .req 0x3300#16 20#8

/-- The bundles a trace publishes, in order. -/
def pubsOf : List Event → List Bundle
  | [] => []
  | .pub b :: es => b :: pubsOf es
  | _ :: es => pubsOf es

/-- Which event may come directly after which (R66 to R69): read 2 only after read 1, read 3 only after read 2, a publish
only after read 3, HALT only after a read, read 1 at the start or after anything but HALT, and nothing after HALT. -/
def mayFollow (prev : Option Event) (e : Event) : Bool :=
  if prev = some .halt then false
  else if e = req1 then true
  else if e = req2 then decide (prev = some req1)
  else if e = req3 then decide (prev = some req2)
  else
    match e with
    | .pub _ => decide (prev = some req3)
    | .halt => decide (prev = some req1 ∨ prev = some req2 ∨ prev = some req3)
    | .req _ _ => false

/-- Every event of a trace may follow the one before it. -/
def orderOk (prev : Option Event) : List Event → Bool
  | [] => true
  | e :: es => mayFollow prev e && orderOk (some e) es

/-! ### Good states -/

/-- The banks a tick has written by phase: none while read 1 is awaited, then bank 1, then banks 1 and 2 (R23, R27). -/
def writtenBy : Phase → Bool × Bool × Bool
  | .idle => (false, false, false)
  | .w1 => (false, false, false)
  | .w2 => (true, false, false)
  | .w3 => (true, true, false)

/-- The invariants of the control state, R31(a), (c), (e) with R16, R23, R33. (b) holds by the width of `FC`; (d) is
`PeakInv`; (f) is a statement about steps. -/
structure ControlInv (s : State) : Prop where
  /-- R31(a): `RUN = 0` if and only if `FC = 3`. -/
  run_fc : s.run = false ↔ s.fc = 3
  /-- R31(c): if `RUN = 0` then `PH = 0`. -/
  halted_idle : s.run = false → s.ph = .idle
  /-- R31(e): `YTD = 0`. -/
  ytd_zero : s.ytd = 0
  /-- R23: the banks written in this tick are those of the phase. -/
  banks : (s.b1w, s.b2w, s.b3w) = writtenBy s.ph
  /-- R33: no snapshot is kept between steps. -/
  no_draft : s.draft = Draft.empty
  /-- R16: HALT was emitted once if the block has terminated, and never otherwise. -/
  halt_once : s.trace.count .halt = if s.run then 0 else 1
  /-- No selector word is presented from outside (R97). -/
  no_sel : s.opSel = none

/-- R31(d): `MAXP` is the largest yieldPower numerator published since reset, or 0 if there were none or all were 0. -/
structure PeakInv (s : State) : Prop where
  bound : ∀ b ∈ pubsOf s.trace, b.snap.yieldPower.toNat ≤ s.maxp.toNat
  attained : s.maxp = 0 ∨ ∃ b ∈ pubsOf s.trace, b.snap.yieldPower = s.maxp

/-- R34: `SNK` holds the last bundle published since reset, and holds a value only if there was one. -/
def SinkInv (s : State) : Prop := (pubsOf s.trace).getLast? = if s.snkHeld then some s.snk else none

/-- R39(b), R66: the trace is in order, and while a read is awaited the last event is its request. -/
structure OrderInv (s : State) : Prop where
  ordered : orderOk none s.trace = true
  last_w1 : s.ph = .w1 → s.trace.getLast? = some req1
  last_w2 : s.ph = .w2 → s.trace.getLast? = some req2
  last_w3 : s.ph = .w3 → s.trace.getLast? = some req3

end Sys2Proof.Machine
end

