-- ==== Sys2Proof/Certificates/Slice0/Obligations.lean ====
section
/-! DEFINITION. The statements for the provers: def Obligations.<Name> : Prop. In a statement whose conclusion is `exec i s = .next { s with … }` the equation is the whole frame: every field not named is unchanged. -/

open Sys2Proof Sys2Proof.Machine

/-! ### Reset (10_state.md section 9, 70_reset_and_hazards.md section 1) -/

/-- Reset leaves RUN 1, FC 0, MAXP 0, YTD 0, PH 0, HALT 0 and the banks and SNK without value. RUN, FC and PH are the
spec's own decision D17; the words under a false mark (log 1, 2) are not stated. That no exit status is shown while RUN is
1 is the model's choice (log 12): R8 and R37 say only that the constant goes with HALT and is not zero (decision D16). -/
def Obligations.ResetLeavesSpecValues : Prop :=
  State.reset.run = true ∧ State.reset.fc = 0 ∧ State.reset.maxp = 0 ∧ State.reset.ytd = 0 ∧
  State.reset.ph.code = 0 ∧ State.reset.haltOut = false ∧ State.reset.exitShown = none ∧
  State.reset.b1w = false ∧ State.reset.b2w = false ∧ State.reset.b3w = false ∧
  ∀ p : Nat, State.reset.sinkPort p = none

/-- Reset wins over a tick under way in any phase and puts RUN, FC, MAXP, YTD and PH at their reset values (decision D17),
with no bank marked written and no value held by the sink. The equation with `State.reset` also says which words stand under
these false marks: they are the model's choices of log 1 and 2, not the spec's. What goes on is the model's own: the rest
of the script and the free value's counter; the trace begins anew (log 5, 6, 10). -/
def Obligations.ResetEventRestoresReset : Prop :=
  ∀ (s : State) (rest : List EnvEvent), s.opSel = none → s.env = .reset :: rest →
    step s = .next { State.reset with env := rest, freeIdx := s.freeIdx }

/-! ### Selectors (30_encoding.md) -/

/-- Decoding and encoding are inverse to each other: a selector decodes to an operation exactly if it is the encoding of
that operation, don't-care bits included. -/
def Obligations.DecodeInvertsEncode : Prop :=
  ∀ (sel : Sel) (i : Instr), decode sel = .ok i ↔ encode i = sel

/-- The words that decode are exactly the legal ones: three requests, port indices 0 to 10, micro-step indices 0 to 6,
outcome words 0 to 15. -/
def Obligations.LegalSelectorsAreDecoded : Prop :=
  ∀ sel : Sel, sel.wf = true ↔ ∃ i : Instr, decode sel = .ok i

/-- Words written out from the tables of 30_encoding.md decode to their operations, and reserved ones are rejected by
name (vectors V80 to V89 and the rows of R93). -/
def Obligations.WrittenOutWordsDecode : Prop :=
  decode ⟨.request, 0x310012#24⟩ = .ok .rdblk1 ∧ decode ⟨.request, 0x320003#24⟩ = .ok .rdblk2 ∧
  decode ⟨.request, 0x330014#24⟩ = .ok .rdblk3 ∧
  decode ⟨.request, 0x310013#24⟩ = .error (.notARequest 0x3100#16 19#8) ∧
  decode ⟨.request, 0x340001#24⟩ = .error (.notARequest 0x3400#16 1#8) ∧
  decode ⟨.sinkPort, 0x4#24⟩ = .ok .decYp ∧ decode ⟨.sinkPort, 0xA#24⟩ = .ok .outMaxp ∧
  decode ⟨.sinkPort, 0xB#24⟩ = .error (.reservedPort 0xB#24) ∧
  decode ⟨.microStep, 0x3#24⟩ = .ok .peak ∧ decode ⟨.microStep, 0x7#24⟩ = .error (.reservedMicroStep 0x7#24) ∧
  decode ⟨.outcome, 0x8#24⟩ = .ok .tickOk ∧ decode ⟨.outcome, 0xC#24⟩ = .ok (.tickF1 false false) ∧
  decode ⟨.outcome, 0xB#24⟩ = .ok (.tickF2 true) ∧ decode ⟨.outcome, 0x9#24⟩ = .ok .tickF3 ∧
  decode ⟨.outcome, 0x5#24⟩ = .ok (.tickNop true false true)

/-! ### Configuration (00_scope.md section 3) -/

/-- A raw configuration is accepted exactly if it is well formed (offsets in range, exit status not zero), and then
nothing of it is changed. -/
def Obligations.ConfigCheckMatchesRanges : Prop :=
  (∀ r : RawConfig, r.check.isSome = r.wf) ∧ (∀ (r : RawConfig) (c : Config), r.check = some c → c.raw = r) ∧
  (∀ c : Config, c.raw.wf = true)

/-! ### Formats and the decoder as a function (30_encoding.md, 40_decode_ops.md) -/

/-- R87, format PM: the value is `hi * 65536 + lo` exactly, bits 31:16 are `hi`, bits 15:0 are `lo`, and so it is the
concatenation. -/
def Obligations.MultiplyAddIsConcatenation : Prop :=
  ∀ lo hi : Word, (pairMulAdd lo hi).toNat = hi.toNat * 65536 + lo.toNat ∧ pairMulAdd lo hi = hi ++ lo ∧
    (pairMulAdd lo hi).extractLsb' 16 16 = hi ∧ (pairMulAdd lo hi).extractLsb' 0 16 = lo

/-- Format PS: the value is the exact bitwise OR, with the bytes of the table of 30_encoding.md; it agrees with
`hi * 256 + lo` exactly if the overlapping bytes share no bit (95_test_vectors.md part 4 item 7). -/
def Obligations.ShiftOrByBytes : Prop :=
  ∀ lo hi : Word, (pairShiftOr lo hi).toNat = lo.toNat ||| (hi.toNat <<< 8) ∧
    (pairShiftOr lo hi).extractLsb' 16 8 = hi.extractLsb' 8 8 ∧
    (pairShiftOr lo hi).extractLsb' 8 8 = (lo.extractLsb' 8 8 ||| hi.extractLsb' 0 8) ∧
    (pairShiftOr lo hi).extractLsb' 0 8 = lo.extractLsb' 0 8 ∧
    ((pairShiftOr lo hi).toNat = hi.toNat * 256 + lo.toNat ↔ (lo.toNat >>> 8) &&& (hi.toNat &&& 0xFF) = 0)

/-- The charge-stage table of R86 for every status word. The codes 0 to 4 are the spec's own decision D7, a printing
convention (log 27); the bit positions rest on decision D2 (log 13, presumed); that no bit but 1, 2 and 3 has an effect is
R85 and R96. -/
def Obligations.StatusTable : Prop :=
  (∀ st : Word,
    (st.getLsbD 1 = false → st.getLsbD 3 = false → st.getLsbD 2 = false → statusState st = .off) ∧
    (st.getLsbD 1 = false → st.getLsbD 3 = false → st.getLsbD 2 = true → statusState st = .float) ∧
    (st.getLsbD 1 = false → st.getLsbD 3 = true → st.getLsbD 2 = false → statusState st = .boost) ∧
    (st.getLsbD 1 = false → st.getLsbD 3 = true → st.getLsbD 2 = true → statusState st = .equalization) ∧
    (st.getLsbD 1 = true → statusState st = .fault)) ∧
  OpState.off.code = 0 ∧ OpState.float.code = 1 ∧ OpState.boost.code = 2 ∧ OpState.equalization.code = 3 ∧
  OpState.fault.code = 4 ∧
  (∀ st st' : Word, st.extractLsb' 1 3 = st'.extractLsb' 1 3 → statusState st = statusState st')

/-- Scaled values compare as their numerators do, a scaled field denotes `N / 100` on its port, and the scaled ports are
exactly 0 to 5, 8 and 10, all with the divisor 100. The port numbers are decision D9. -/
def Obligations.ScaledOrderIsNumeratorOrder : Prop :=
  (∀ (w : Nat) (a b : Scaled w), (scaledValue a < scaledValue b ↔ a.toNat < b.toNat) ∧
    scaledValue a * 100 = (a.toNat : ℚ) ∧ (scaledPort a).denotes = some (scaledValue a)) ∧
  (∀ (b : Bundle) (q : Nat),
    ((∃ n d : Nat, b.port q = some (.scaled n d)) ↔ q ∈ [0, 1, 2, 3, 4, 5, 8, 10]) ∧
    (∀ n d : Nat, b.port q = some (.scaled n d) → d = 100))

/-- Which answers are bad, and that a good one hands over exactly its words in order (decision D11 for wrong lengths). -/
def Obligations.BadAnswers : Prop :=
  ∀ (r : Answer) (n : Nat),
    (r.bad n = true ↔ r = .err ∨ ∃ ws, r = .ok ws ∧ ws.length ≠ n) ∧
    (r.words n = none ↔ r.bad n = true) ∧
    (∀ v : Vector Word n, r.words n = some v ↔ r = .ok v.toList)

/-- Every field of a decoded snapshot, for every configuration and all banks; `b1[0]` is seen floored at 1 by every
field whose offset is 0. The banks of the offsets are decisions D4 to D6. -/
def Obligations.DecoderFieldRules : Prop :=
  ∀ (c : Config) (b1 : Vector Word 18) (b2 : Vector Word 3) (b3 : Vector Word 20),
    (decodeBanks c b1 b2 b3).dcVoltage.toNat =
      (if c.offDcv.val = 0 then max b1[0].toNat 1 else b1[c.offDcv].toNat) ∧
    (decodeBanks c b1 b2 b3).dcCurrent.toNat =
      (if c.offDci.val = 0 then max b1[0].toNat 1 else b1[c.offDci].toNat) ∧
    (decodeBanks c b1 b2 b3).dcTemperature.toNat =
      (if c.offDct.val = 0 then max b1[0].toNat 1 else b1[c.offDct].toNat) ∧
    (decodeBanks c b1 b2 b3).pvVoltage.toNat = max b1[0].toNat 1 ∧
    (decodeBanks c b1 b2 b3).yieldPower.toNat = b1[3].toNat * 65536 + b1[2].toNat ∧
    (decodeBanks c b1 b2 b3).loadCurrent.toNat =
      (if c.offLdi.val = 0 then max b1[0].toNat 1 else b1[c.offLdi].toNat) ∧
    (decodeBanks c b1 b2 b3).operatingState =
      (if b2[c.offSt].getLsbD 1 then .fault
       else if b2[c.offSt].getLsbD 3 then (if b2[c.offSt].getLsbD 2 then .equalization else .boost)
       else (if b2[c.offSt].getLsbD 2 then .float else .off)) ∧
    (decodeBanks c b1 b2 b3).loadState = 0 ∧
    (decodeBanks c b1 b2 b3).dailyYield.toNat = b3[c.offDyLo].toNat ||| (b3[c.offDyHi].toNat <<< 8) ∧
    (decodeBanks c b1 b2 b3).errorCode = 0

/-- The decoder is a function of the ten or fewer words it reads: changing any other bank word changes no field
(95_test_vectors.md part 4 item 6). -/
def Obligations.DecoderReadsOnlyItsWords : Prop :=
  ∀ (c : Config) (b1 b1' : Vector Word 18) (b2 b2' : Vector Word 3) (b3 b3' : Vector Word 20),
    (∀ k : Fin 18, k.val = 0 ∨ k.val = 2 ∨ k.val = 3 ∨ k = c.offDcv ∨ k = c.offDci ∨ k = c.offDct ∨ k = c.offLdi →
      b1[k] = b1'[k]) →
    b2[c.offSt] = b2'[c.offSt] → b3[c.offDyLo] = b3'[c.offDyLo] → b3[c.offDyHi] = b3'[c.offDyHi] →
    decodeBanks c b1 b2 b3 = decodeBanks c b1' b2' b3'

/-- The decoder on blocks of any length: a PreconditionViolation exactly if a length is wrong, and otherwise the snapshot
of exactly these words. -/
def Obligations.DecodeBlocksNeedExactLengths : Prop :=
  (∀ (c : Config) (w1 w2 w3 : List Word),
    decodeBlocks c w1 w2 w3 = .error .preconditionViolation ↔ ¬(w1.length = 18 ∧ w2.length = 3 ∧ w3.length = 20)) ∧
  (∀ (c : Config) (b1 : Vector Word 18) (b2 : Vector Word 3) (b3 : Vector Word 20),
    decodeBlocks c b1.toList b2.toList b3.toList = .ok (decodeBanks c b1 b2 b3))

/-! ### The decoder's operations over State -/

/-- R122: DECODE gives the same snapshot in any two states with the same banks, whatever the rest of the state, and
writes nothing but the transient snapshot (and CLAMP's rewrite of `B1[0]`). -/
def Obligations.DecodeIsPure : Prop :=
  ∀ s s' : State, s.b1w = true → s.b2w = true → s.b3w = true → s'.b1w = true → s'.b2w = true → s'.b3w = true →
    s.b1 = s'.b1 → s.b2 = s'.b2 → s.b3 = s'.b3 →
    ∃ (p : Snapshot) (b1 : Vector Word 18),
      exec .decode s = .next { s with b1 := b1, draft := s.draft.withSnapshot p } ∧
      exec .decode s' = .next { s' with b1 := b1, draft := s'.draft.withSnapshot p } ∧
      (∀ k : Fin 18, k.val ≠ 0 → b1[k] = s.b1[k])

/-- R110: DECODE is CLAMP and then the ten field operations in any order; on written banks it always gives exactly one
snapshot, all ten fields. -/
def Obligations.DecodeIsClampThenFieldsInAnyOrder : Prop :=
  ∀ s : State, s.b1w = true → s.b2w = true → s.b3w = true →
    (∀ l : List Instr, l.Perm fieldOps → runOps (.clamp :: l) s = exec .decode s) ∧
    ∃ p : Snapshot, p = decodeBanks Config.active s.b1 s.b2 s.b3 ∧
      exec .decode s = .next { s with b1 := clampBank s.b1, draft := s.draft.withSnapshot p }

/-- R111: CLAMP floors `B1[0]` at 1 and changes nothing else, and every field whose offset is 0 reads the clamped word. -/
def Obligations.ClampFloorsWordZero : Prop :=
  (∀ s : State, s.b1w = true →
    ∃ w : Word, w.toNat = max s.b1[0].toNat 1 ∧ (s.b1[0] = 0 → w = 1) ∧ (s.b1[0] ≠ 0 → w = s.b1[0]) ∧
      exec .clamp s = .next { s with b1 := s.b1.set 0 w }) ∧
  (∀ (c : Config) (b1 : Vector Word 18) (b2 : Vector Word 3) (b3 : Vector Word 20),
    decodeBanks c b1 b2 b3 = decodeBanks c (clampBank b1) b2 b3 ∧
    (c.offDcv.val = 0 → (decodeBanks c b1 b2 b3).dcVoltage = (clampBank b1)[0]) ∧
    (c.offDci.val = 0 → (decodeBanks c b1 b2 b3).dcCurrent = (clampBank b1)[0]) ∧
    (c.offDct.val = 0 → (decodeBanks c b1 b2 b3).dcTemperature = (clampBank b1)[0]) ∧
    (c.offLdi.val = 0 → (decodeBanks c b1 b2 b3).loadCurrent = (clampBank b1)[0]) ∧
    (decodeBanks c b1 b2 b3).pvVoltage = (clampBank b1)[0])

/-- DEC.DCV, DEC.DCI, DEC.DCT and DEC.LDI copy the word at their offset (decision D4) into their field of the snapshot and
change nothing else. Where the offset is 0 (allowed by decision D32) the word is floored at 1, because CLAMP comes before
every field operation (R111); that this is so for an operation run by itself is the model's reading (log 23). -/
def Obligations.ScalarChannelsCopyTheirWord : Prop :=
  ∀ s : State, s.b1w = true →
    (∃ v : Word, v.toNat = (if Config.active.offDcv.val = 0 then max s.b1[0].toNat 1 else s.b1[Config.active.offDcv].toNat) ∧
      exec .decDcv s = .next { s with draft := { s.draft with dcVoltage := some v } }) ∧
    (∃ v : Word, v.toNat = (if Config.active.offDci.val = 0 then max s.b1[0].toNat 1 else s.b1[Config.active.offDci].toNat) ∧
      exec .decDci s = .next { s with draft := { s.draft with dcCurrent := some v } }) ∧
    (∃ v : Word, v.toNat = (if Config.active.offDct.val = 0 then max s.b1[0].toNat 1 else s.b1[Config.active.offDct].toNat) ∧
      exec .decDct s = .next { s with draft := { s.draft with dcTemperature := some v } }) ∧
    (∃ v : Word, v.toNat = (if Config.active.offLdi.val = 0 then max s.b1[0].toNat 1 else s.b1[Config.active.offLdi].toNat) ∧
      exec .decLdi s = .next { s with draft := { s.draft with loadCurrent := some v } })

/-- R115: DEC.PVV gives the raw word floored at 1, never 0. -/
def Obligations.PvVoltageIsNeverZero : Prop :=
  ∀ s : State, s.b1w = true →
    ∃ v : Word, v.toNat = max s.b1[0].toNat 1 ∧ v ≠ 0 ∧
      exec .decPvv s = .next { s with draft := { s.draft with pvVoltage := some v } }

/-- R116: DEC.YP gives `B1[3] * 65536 + B1[2]` exactly, which is `(hi << 16) | lo`. -/
def Obligations.YieldPowerIsMultiplyAdd : Prop :=
  ∀ s : State, s.b1w = true →
    ∃ v : BitVec 32, v.toNat = s.b1[3].toNat * 65536 + s.b1[2].toNat ∧
      v = (s.b1[3].setWidth 32 <<< 16) ||| s.b1[2].setWidth 32 ∧
      exec .decYp s = .next { s with draft := { s.draft with yieldPower := some v } }

/-- DEC.ST: Fault whenever bit 1 is set, otherwise the table by bits 3 and 2; the register is `B2[OFF_ST]` (decision D5). -/
def Obligations.OperatingStateFaultFirst : Prop :=
  ∀ s : State, s.b2w = true →
    ∃ v : OpState,
      v = (if s.b2[Config.active.offSt].getLsbD 1 then .fault
        else if s.b2[Config.active.offSt].getLsbD 3 then
          (if s.b2[Config.active.offSt].getLsbD 2 then .equalization else .boost)
        else (if s.b2[Config.active.offSt].getLsbD 2 then .float else .off)) ∧
      exec .decSt s = .next { s with draft := { s.draft with operatingState := some v } }

/-- R119, R121: loadState and errorCode are 0 for any banks, fault bit set or not. -/
def Obligations.ConstantFields : Prop :=
  ∀ s : State,
    exec .decLds s = .next { s with draft := { s.draft with loadState := some 0#1 } } ∧
    exec .decErr s = .next { s with draft := { s.draft with errorCode := some 0#8 } }

/-- DEC.DY: `lo | (hi << 8)`, exact in 24 bits, from `B3[OFF_DY_LO]` and `B3[OFF_DY_HI]` (decision D6). -/
def Obligations.DailyYieldIsShiftOr : Prop :=
  ∀ s : State, s.b3w = true →
    ∃ v : BitVec 24,
      v.toNat = s.b3[Config.active.offDyLo].toNat ||| (s.b3[Config.active.offDyHi].toNat <<< 8) ∧
      exec .decDy s = .next { s with draft := { s.draft with dailyYield := some v } }

/-- A decode operation that reads a bank the current tick has not written is refused (log 3; the sentence "reading a bank
word that the current tick has not written is a refusal of the model" of 10_state.md section 2). Without a snapshot of
this tick PEAK and PUB have nothing to compare or to publish and are refused (model's choice, log 4). -/
def Obligations.MissingOperandsAreRefused : Prop :=
  (∀ (s : State) (i : Instr), s.b1w = false →
    i ∈ [Instr.clamp, .decDcv, .decDci, .decDct, .decPvv, .decYp, .decLdi, .decode] →
    exec i s = .refused .bankNotWritten) ∧
  (∀ (s : State) (i : Instr), s.b2w = false → i ∈ [Instr.decSt, .decode] → exec i s = .refused .bankNotWritten) ∧
  (∀ (s : State) (i : Instr), s.b3w = false → i ∈ [Instr.decDy, .decode] → exec i s = .refused .bankNotWritten) ∧
  (∀ s : State, s.draft.yieldPower = none → exec .peak s = .refused .snapshotMissing) ∧
  (∀ s : State, s.draft.snapshot = none → exec .pub s = .refused .snapshotMissing)

/-! ### Failure counter, peak and publish (41_pollcycle_ops.md sections 4 to 6, 8) -/

/-- FCINC adds one while `FC` is below 3 and changes nothing else; FCCLR clears the counter and changes nothing else.
From 3, where the spec says FCINC is never executed, the two bits take some value and the machine goes on (model's
choice, log 10). -/
def Obligations.FailureCounterOperations : Prop :=
  (∀ s : State, s.fc.toNat < 3 →
    ∃ v : BitVec 2, v.toNat = s.fc.toNat + 1 ∧ exec .fcinc s = .next { s with fc := v }) ∧
  (∀ s : State, s.fc = 3 →
    ∃ v : BitVec 2, exec .fcinc s = .next { s with fc := v, freeIdx := s.freeIdx + 1 }) ∧
  (∀ s : State, exec .fcclr s = .next { s with fc := 0 })

/-- HALTCHK clears RUN and emits HALT exactly if `FC >= 3`, and otherwise does nothing, as the pseudocode of R147 reads.
That it emits HALT also where RUN is 0 already is the model's reading (log 26); R16 has HALT once, and in the block's own
steps it is emitted once. -/
def Obligations.HaltchkAtThreshold : Prop :=
  (∀ s : State, 3 ≤ s.fc.toNat → exec .haltchk s = .next { s with run := false, trace := s.trace ++ [.halt] }) ∧
  (∀ s : State, s.fc.toNat < 3 → exec .haltchk s = .next s)

/-- R149: PEAK replaces MAXP by a strictly greater yieldPower and leaves it otherwise; no operation lowers MAXP, none but
PEAK and a fully successful tick changes it. -/
def Obligations.PeakIsStrictMaximum : Prop :=
  (∀ (s : State) (yp : BitVec 32), s.draft.yieldPower = some yp → s.maxp.toNat < yp.toNat →
    exec .peak s = .next { s with maxp := yp }) ∧
  (∀ (s : State) (yp : BitVec 32), s.draft.yieldPower = some yp → yp.toNat ≤ s.maxp.toNat → exec .peak s = .next s) ∧
  (∀ (i : Instr) (s t : State), exec i s = .next t →
    s.maxp.toNat ≤ t.maxp.toNat ∧ (i ≠ .peak → i ≠ .tickOk → t.maxp = s.maxp))

/-- OUT.MAXP: port 10 of the bundle is MAXP as it stands (decision D9); with a snapshot of this tick the bundle is whole,
and its port 10 reads MAXP. -/
def Obligations.OutMaxpShowsPeak : Prop :=
  ∀ (s : State) (d : Draft), d = { s.draft with maxPowerToday := some s.maxp } →
    exec .outMaxp s = .next { s with draft := d } ∧
    (∀ p : Snapshot, s.draft.snapshot = some p →
      ∃ b : Bundle, d.bundle = some b ∧ b.snap = p ∧ b.port 10 = some (.scaled s.maxp.toNat 100))

/-- PUB emits one event with the ten fields of the snapshot and MAXP, and the sink then holds exactly that bundle: the
environment reads each value on its port in the order of R35, the scaled ones with their divisor, and nothing from port 11
on (decision D9). The number port 6 prints is decision D7 (log 27). -/
def Obligations.PubPublishesBundle : Prop :=
  ∀ (s t : State) (p : Snapshot), s.draft.snapshot = some p →
    t = { s with
      trace := s.trace ++ [.pub ⟨p, s.maxp⟩]
      snk := ⟨p, s.maxp⟩
      snkHeld := true
      draft := { s.draft with maxPowerToday := some s.maxp } } →
    exec .pub s = .next t ∧
    t.sinkPort 0 = some (.scaled p.dcVoltage.toNat 100) ∧ t.sinkPort 1 = some (.scaled p.dcCurrent.toNat 100) ∧
    t.sinkPort 2 = some (.scaled p.dcTemperature.toNat 100) ∧ t.sinkPort 3 = some (.scaled p.pvVoltage.toNat 100) ∧
    t.sinkPort 4 = some (.scaled p.yieldPower.toNat 100) ∧ t.sinkPort 5 = some (.scaled p.loadCurrent.toNat 100) ∧
    t.sinkPort 6 = some (.state p.operatingState) ∧
    (t.sinkPort 6).map PortValue.number =
      some (match p.operatingState with | .off => 0 | .float => 1 | .boost => 2 | .equalization => 3 | .fault => 4) ∧
    t.sinkPort 7 = some (.plain p.loadState.toNat) ∧ t.sinkPort 8 = some (.scaled p.dailyYield.toNat 100) ∧
    t.sinkPort 9 = some (.plain p.errorCode.toNat) ∧ t.sinkPort 10 = some (.scaled s.maxp.toNat 100) ∧
    ∀ q : Nat, 11 ≤ q → t.sinkPort q = none

/-! ### Block reads and the answer steps (41_pollcycle_ops.md section 2, 60_exceptions.md section 4) -/

/-- R141: with RUN = 1 and PH = 0 the strobe issues read 1 and `PH <- 1`; that the tick begins with
no bank marked written and an empty draft is the model's reading (log 29, from R23 and R33). -/
def Obligations.Rdblk1IssuesReadOne : Prop :=
  ∀ (s : State) (rest : List EnvEvent), s.run = true → s.ph = .idle → s.env = .tick :: rest →
    exec .rdblk1 s = .next { s with
      env := rest, ph := .w1, b1w := false, b2w := false, b3w := false, draft := Draft.empty
      trace := s.trace ++ [.req 0x3100#16 18#8] }

/-- RDBLK2 and RDBLK3 on a good answer fill their bank, issue the next read and go to the next phase (decision D10 for
stopping at a bad answer). -/
def Obligations.GoodAnswersIssueTheNextRead : Prop :=
  (∀ (s : State) (rest : List EnvEvent) (ws : Vector Word 18), s.ph = .w1 → s.env = .answer (.ok ws.toList) :: rest →
    exec .rdblk2 s = .next { s with
      env := rest, ph := .w2, b1 := ws, b1w := true, trace := s.trace ++ [.req 0x3200#16 3#8] }) ∧
  (∀ (s : State) (rest : List EnvEvent) (ws : Vector Word 3), s.ph = .w2 → s.env = .answer (.ok ws.toList) :: rest →
    exec .rdblk3 s = .next { s with
      env := rest, ph := .w3, b2 := ws, b2w := true, trace := s.trace ++ [.req 0x3300#16 20#8] })

/-- RDBLK2 and RDBLK3 on a bad answer end the tick as failed: one count, no further read, no publish. -/
def Obligations.BadAnswersFailTheTick : Prop :=
  (∀ (s : State) (r : Answer) (rest : List EnvEvent), s.run = true → s.fc.toNat < 3 → s.ph = .w1 →
    s.env = .answer r :: rest → r.bad 18 = true → exec .rdblk2 s = .next (failedTick s rest [])) ∧
  (∀ (s : State) (r : Answer) (rest : List EnvEvent), s.run = true → s.fc.toNat < 3 → s.ph = .w2 →
    s.env = .answer r :: rest → r.bad 3 = true → exec .rdblk3 s = .next (failedTick s rest []))

/-- R144: the third answer closes the tick. Good: FC 0, MAXP raised if exceeded, the whole bundle published, PH 0. Bad:
one count, HALTCHK, PH 0, nothing published. That the bank marks and the draft are cleared with the
tick is the model's reading (log 29, from R23, R33 and R178). -/
def Obligations.ThirdAnswerClosesTheTick : Prop :=
  (∀ (s : State) (rest : List EnvEvent) (w3 : Vector Word 20) (p : Snapshot) (m : BitVec 32),
    s.opSel = none → s.run = true → s.ph = .w3 → s.b1w = true → s.b2w = true →
    s.env = .answer (.ok w3.toList) :: rest →
    p = decodeBanks Config.active s.b1 s.b2 w3 →
    m = (if s.maxp.toNat < p.yieldPower.toNat then p.yieldPower else s.maxp) →
    step s = .next { s with
      env := rest, ph := .idle, fc := 0, maxp := m
      b1 := clampBank s.b1, b3 := w3, b1w := false, b2w := false, b3w := false, draft := Draft.empty
      snk := ⟨p, m⟩, snkHeld := true, trace := s.trace ++ [.pub ⟨p, m⟩] }) ∧
  (∀ (s : State) (r : Answer) (rest : List EnvEvent), s.opSel = none → s.run = true → s.fc.toNat < 3 → s.ph = .w3 →
    s.env = .answer r :: rest → r.bad 20 = true → step s = .next (failedTick s rest []))

/-- R178: what happens on a TransportError, in whichever phase it comes: `FC + 1`, RUN cleared and HALT emitted if that
makes 3, `PH <- 0`, the tick's data discarded (as marks and draft, log 29); MAXP, YTD and the sink are left alone and nothing is
published. -/
def Obligations.TransportErrorEntry : Prop :=
  ∀ (s : State) (r : Answer) (rest : List EnvEvent) (n : Nat), s.opSel = none → s.run = true → s.fc.toNat < 3 →
    (s.ph = .w1 ∧ n = 18 ∨ s.ph = .w2 ∧ n = 3 ∨ s.ph = .w3 ∧ n = 20) → s.env = .answer r :: rest → r.bad n = true →
    step s = .next (failedTick s rest []) ∧ (failedTick s rest []).maxp = s.maxp ∧ (failedTick s rest []).ytd = s.ytd ∧
    (failedTick s rest []).snk = s.snk ∧ (failedTick s rest []).snkHeld = s.snkHeld ∧
    pubsOf (failedTick s rest []).trace = pubsOf s.trace

/-! ### Whole ticks (41_pollcycle_ops.md sections 3 and 7) -/

/-- R151: TICK.OK. Exactly three REQ and one PUB, in this order; FC 0 whatever it was; MAXP raised if exceeded; RUN stays.
That the bank marks and the draft are cleared with the tick is the model's reading (log 29, from R23 and R33). -/
def Obligations.TickOkSucceeds : Prop :=
  ∀ (s : State) (rest : List EnvEvent) (w1 : Vector Word 18) (w2 : Vector Word 3) (w3 : Vector Word 20) (p : Snapshot)
    (m : BitVec 32), s.run = true → s.ph = .idle →
    s.env = .tickLine (some (.ok w1.toList)) (some (.ok w2.toList)) (some (.ok w3.toList)) :: rest →
    p = decodeBanks Config.active w1 w2 w3 →
    m = (if s.maxp.toNat < p.yieldPower.toNat then p.yieldPower else s.maxp) →
    exec .tickOk s = .next { s with
      env := rest, fc := 0, maxp := m, b1 := clampBank w1, b2 := w2, b3 := w3
      b1w := false, b2w := false, b3w := false, draft := Draft.empty
      snk := ⟨p, m⟩, snkHeld := true
      trace := s.trace ++ [.req 0x3100#16 18#8, .req 0x3200#16 3#8, .req 0x3300#16 20#8, .pub ⟨p, m⟩] }

/-- TICK.F1 and TICK.F2: the requests up to the bad answer (decision D10), one count, HALT if it is the third. The bank
marks and the draft, cleared with the tick (60_exceptions.md section 4): log 29. -/
def Obligations.TickFailsAtFirstOrSecondRead : Prop :=
  (∀ (s : State) (r1 : Answer) (o2 o3 : Option Answer) (rest : List EnvEvent) (e2 e3 : Bool),
    s.run = true → s.fc.toNat < 3 → s.ph = .idle → s.env = .tickLine (some r1) o2 o3 :: rest → r1.bad 18 = true →
    exec (.tickF1 e2 e3) s = .next (failedTick s rest [.req 0x3100#16 18#8])) ∧
  (∀ (s : State) (w1 : Vector Word 18) (r2 : Answer) (o3 : Option Answer) (rest : List EnvEvent) (e3 : Bool),
    s.run = true → s.fc.toNat < 3 → s.ph = .idle → s.env = .tickLine (some (.ok w1.toList)) (some r2) o3 :: rest →
    r2.bad 3 = true →
    exec (.tickF2 e3) s =
      .next { failedTick s rest [.req 0x3100#16 18#8, .req 0x3200#16 3#8] with b1 := w1 })

/-- R154: TICK.F3, the torn read: three requests, one count, HALT if it is the third; nothing of the first two answers
is decoded or published, MAXP is left even if bank 1 held a new peak. That the bank marks and the draft are
cleared with the tick is the model's reading (log 29, from R178 and R33). -/
def Obligations.TornReadPublishesNothing : Prop :=
  ∀ (s : State) (w1 : Vector Word 18) (w2 : Vector Word 3) (r3 : Answer) (rest : List EnvEvent) (t : State),
    s.run = true → s.fc.toNat < 3 → s.ph = .idle →
    s.env = .tickLine (some (.ok w1.toList)) (some (.ok w2.toList)) (some r3) :: rest → r3.bad 20 = true →
    t = { failedTick s rest [.req 0x3100#16 18#8, .req 0x3200#16 3#8, .req 0x3300#16 20#8] with b1 := w1, b2 := w2 } →
    exec .tickF3 s = .next t ∧ t.maxp = s.maxp ∧ t.snk = s.snk ∧ t.snkHeld = s.snkHeld ∧
    pubsOf t.trace = pubsOf s.trace

/-- TICK.NOP: a tick while terminated changes nothing and emits nothing (decision D15); only the strobe is taken. -/
def Obligations.TickNopDoesNothing : Prop :=
  ∀ (s : State) (e1 e2 e3 : Bool) (rest : List EnvEvent), s.run = false →
    (s.env = .tick :: rest ∨ ∃ r1 r2 r3, s.env = .tickLine r1 r2 r3 :: rest) →
    exec (.tickNop e1 e2 e3) s = .next { s with env := rest }

/-- An outcome presented against RUN or against the answers of its line is refused (model's choice, log 20). -/
def Obligations.OutcomesAgainstTheirWordAreRefused : Prop :=
  ∀ (s : State) (r1 r2 r3 : Option Answer) (rest : List EnvEvent) (e1 e2 e3 : Bool),
    s.env = .tickLine r1 r2 r3 :: rest → (s.run = true → s.ph = .idle) →
    (s.run = true → exec (.tickNop e1 e2 e3) s = .refused .outcomeMismatch) ∧
    (s.run = false ∨ lineSucceeds r1 r2 r3 = false → exec .tickOk s = .refused .outcomeMismatch) ∧
    (s.run = false ∨ lineBad r1 18 = false → exec (.tickF1 e2 e3) s = .refused .outcomeMismatch) ∧
    (s.run = false ∨ lineGood r1 18 = false ∨ lineBad r2 3 = false →
      exec (.tickF2 e3) s = .refused .outcomeMismatch) ∧
    (s.run = false ∨ lineGood r1 18 = false ∨ lineGood r2 3 = false ∨ lineBad r3 20 = false →
      exec .tickF3 s = .refused .outcomeMismatch)

/-! ### The step -/

/-- A step runs the decoded instruction: where the sequencer's state selects a word that decodes to `i`, the step is
`exec i` at that state with the presented word taken; a word that decodes to nothing is refused by name. -/
def Obligations.StepRunsDecodedInstruction : Prop :=
  (∀ (s : State) (sel : Sel) (i : Instr), select s = .op sel → decode sel = .ok i → step s = exec i s.clearSel) ∧
  (∀ (s : State) (sel : Sel) (e : DecodeError), select s = .op sel → decode sel = .error e →
    step s = .refused (.invalidSelector e))

/-- What each event of the environment selects: a tick at rest read 1, an answer the operation of its phase, and a whole
line its outcome word; a tick after termination TICK.NOP. -/
def Obligations.EventsSelectTheirOperation : Prop :=
  ∀ (s : State) (rest : List EnvEvent), s.opSel = none →
    (s.env = .tick :: rest → s.run = true → s.ph = .idle → step s = exec .rdblk1 s) ∧
    (s.env = .tick :: rest → s.run = false → step s = exec (.tickNop false false false) s) ∧
    (∀ r, s.env = .answer r :: rest → s.run = true → s.ph = .w1 → step s = exec .rdblk2 s) ∧
    (∀ r, s.env = .answer r :: rest → s.run = true → s.ph = .w2 → step s = exec .rdblk3 s) ∧
    (∀ r1 r2 r3, s.env = .tickLine r1 r2 r3 :: rest → s.run = true → s.ph = .idle → lineSucceeds r1 r2 r3 = true →
      step s = exec .tickOk s) ∧
    (∀ r1 r2 r3, s.env = .tickLine r1 r2 r3 :: rest → s.run = true → s.ph = .idle → lineBad r1 18 = true →
      step s = exec (.tickF1 (lineBad r2 3) (lineBad r3 20)) s) ∧
    (∀ r1 r2 r3, s.env = .tickLine r1 r2 r3 :: rest → s.run = true → s.ph = .idle → lineGood r1 18 = true →
      lineBad r2 3 = true → step s = exec (.tickF2 (lineBad r3 20)) s) ∧
    (∀ r1 r2 r3, s.env = .tickLine r1 r2 r3 :: rest → s.run = true → s.ph = .idle → lineGood r1 18 = true →
      lineGood r2 3 = true → lineBad r3 20 = true → step s = exec .tickF3 s) ∧
    (∀ r1 r2 r3, s.env = .tickLine r1 r2 r3 :: rest → s.run = false →
      step s = exec (.tickNop (lineBad r1 18) (lineBad r2 3) (lineBad r3 20)) s)

/-- The situations without a meaning stop by name: a tick inside a tick (decision D14), an answer nobody awaits, a read
that is never answered (decision D21); log 17, 18, 19. -/
def Obligations.MeaninglessSituationsStop : Prop :=
  ∀ (s : State) (rest : List EnvEvent), s.opSel = none → s.run = true →
    (s.env = .tick :: rest → s.ph ≠ .idle → step s = .refused .tickDuringTick) ∧
    (∀ r1 r2 r3, s.env = .tickLine r1 r2 r3 :: rest → s.ph ≠ .idle → step s = .refused .tickDuringTick) ∧
    (∀ r, s.env = .answer r :: rest → s.ph = .idle → step s = .refused .answerNotAwaited) ∧
    (s.env = [] → s.ph ≠ .idle → step s = .fault .readUnanswered)

/-- A late answer of a read forgotten by a reset is ignored in every phase (decision D17), and an idle block with nothing
arriving does nothing (log 25). -/
def Obligations.LateAnswersAndSilenceChangeNothing : Prop :=
  (∀ (s : State) (r : Answer) (rest : List EnvEvent), s.opSel = none → s.env = .lateAnswer r :: rest →
    step s = .next { s with env := rest }) ∧
  (∀ s : State, s.opSel = none → s.env = [] → s.ph = .idle → step s = .next s)

/-- After termination nothing but reset has an effect: every other event is taken and changes nothing, emits nothing
(decisions D15, D16). -/
def Obligations.TerminatedIgnoresEverything : Prop :=
  ∀ s : State, s.opSel = none → s.run = false → (∀ rest, s.env ≠ .reset :: rest) →
    step s = .next { s with env := s.env.tail } ∧ s.haltOut = true ∧
    s.exitShown = some Config.active.exitStatus ∧ Config.active.exitStatus ≠ 0

/-- A table word placed for the next step is run by it (log 8, 9). -/
def Obligations.PlacedWordRunsNext : Prop :=
  ∀ (s : State) (nbits w : Nat) (i : Instr), decodeTableWord nbits w = some i →
    step (s.withFetchWord nbits w) = exec i (s.withFetchWord nbits w).clearSel

/-! ### Invariants and whole-machine rules -/

/-- Every step keeps the control invariants R31(a), (c), (e) with those of HALT, banks and snapshot. -/
def Obligations.EveryStepKeepsControlInv : Prop :=
  ∀ s t : State, ControlInv s → step s = .next t → ControlInv t

/-- The reset state meets all the invariants. -/
def Obligations.ResetMeetsInvariants : Prop :=
  ControlInv State.reset ∧ PeakInv State.reset ∧ SinkInv State.reset ∧ OrderInv State.reset

/-- R31(d) is kept by every step: MAXP is the largest yieldPower published since reset, or 0. -/
def Obligations.MaxpIsLargestPublishedPower : Prop :=
  ∀ s t : State, s.opSel = none → PeakInv s → step s = .next t → PeakInv t

/-- The sink always holds the last bundle published since reset: every step keeps it, whatever failed in between. -/
def Obligations.SinkHoldsLastBundle : Prop :=
  ∀ s t : State, SinkInv s → step s = .next t → SinkInv t

/-- Every step keeps the order of the trace: read 1, read 2, read 3, publish; one request outstanding; nothing after HALT. -/
def Obligations.EveryStepKeepsTraceOrder : Prop :=
  ∀ s t : State, ControlInv s → OrderInv s → step s = .next t → OrderInv t

/-- R201: reset is the only way out of Terminated and the only way MAXP ever decreases. Holds for every step of every
state, also with a selector word presented. -/
def Obligations.OnlyResetRevivesOrLowersPeak : Prop :=
  ∀ s t : State, step s = .next t →
    (select s ≠ .reset → s.maxp.toNat ≤ t.maxp.toNat ∧ (s.run = false → t.run = false)) ∧
    (select s = .reset → t.maxp = 0 ∧ t.run = true)

/-- R156: a whole tick publishes exactly if it is fully successful, then exactly one bundle, which the sink holds; any
other tick leaves the sink and the published sequence as they were. -/
def Obligations.PublishIffFullSuccess : Prop :=
  ∀ (s t : State) (r1 r2 r3 : Option Answer) (rest : List EnvEvent), s.opSel = none →
    s.env = .tickLine r1 r2 r3 :: rest → step s = .next t →
    (s.run = true → lineSucceeds r1 r2 r3 = true → pubsOf t.trace = pubsOf s.trace ++ [t.snk] ∧ t.snkHeld = true) ∧
    (s.run = false ∨ lineSucceeds r1 r2 r3 = false →
      pubsOf t.trace = pubsOf s.trace ∧ t.snk = s.snk ∧ t.snkHeld = s.snkHeld)

/-- Every bundle a step of the block itself publishes: port 10 is at least port 4, port 3 is at least 1, ports 7 and 9
are 0, port 6 is one of the five codes and port 8 is below 2^24 (95_test_vectors.md part 4 item 2; codes: decision D7). -/
def Obligations.EveryPublishIsSane : Prop :=
  ∀ s t : State, s.opSel = none → step s = .next t →
    (select s = .reset ∧ pubsOf t.trace = []) ∨ pubsOf t.trace = pubsOf s.trace ∨
    ∃ (b : Bundle) (v3 v4 v6 v8 v10 : PortValue), pubsOf t.trace = pubsOf s.trace ++ [b] ∧
      b.port 3 = some v3 ∧ b.port 4 = some v4 ∧ b.port 6 = some v6 ∧ b.port 8 = some v8 ∧ b.port 10 = some v10 ∧
      v4.number ≤ v10.number ∧ 1 ≤ v3.number ∧ v6.number ≤ 4 ∧ v8.number < 2 ^ 24 ∧
      b.port 7 = some (.plain 0) ∧ b.port 9 = some (.plain 0) ∧
      b.snap.yieldPower.toNat ≤ b.maxPowerToday.toNat ∧
      1 ≤ b.snap.pvVoltage.toNat ∧ b.snap.loadState = 0 ∧ b.snap.errorCode = 0

/-- A step only appends to the trace (or is a reset, which begins a new run, log 6), and whatever it appends requests
nothing but the three windows. -/
def Obligations.OnlyTheThreeWindowsAreRead : Prop :=
  ∀ s t : State, step s = .next t →
    (select s = .reset ∧ t.trace = []) ∨
    ∃ evs : List Event, t.trace = s.trace ++ evs ∧
      ∀ (a : Addr) (n : Count), Event.req a n ∈ evs →
        (a = 0x3100#16 ∧ n = 18#8) ∨ (a = 0x3200#16 ∧ n = 3#8) ∨ (a = 0x3300#16 ∧ n = 20#8)

/-- No operation writes YTD and no step changes it but reset (decision D13); no operation writes a bank but those of its
read and CLAMP on bank 1. -/
def Obligations.NothingWritesYieldToday : Prop :=
  (∀ (i : Instr) (s t : State), exec i s = .next t → t.ytd = s.ytd) ∧
  (∀ s t : State, step s = .next t → select s ≠ .reset → t.ytd = s.ytd) ∧
  (∀ (i : Instr) (s t : State), exec i s = .next t →
    (i ∉ [Instr.rdblk2, .clamp, .decode, .tickOk, .tickF3] → (∀ e3, i ≠ .tickF2 e3) → t.b1 = s.b1) ∧
    (i ∉ [Instr.rdblk3, .tickOk, .tickF3] → t.b2 = s.b2) ∧
    (i ∉ [Instr.tickOk] → t.b3 = s.b3))

/-- A script line with all the answers that are asked for always completes in one step: no outcome is ever selected
against its operands. The check of script lines (R101; log 31 for RUN = 0) accepts for a running block only such lines, each
of which either succeeds or fails, and accepts after a bad answer only `-`. -/
def Obligations.CompleteLinesAlwaysStep : Prop :=
  (∀ (s : State) (r1 r2 r3 : Option Answer) (rest : List EnvEvent), s.opSel = none →
    s.env = .tickLine r1 r2 r3 :: rest → (s.run = true → s.ph = .idle) →
    (s.run = true → lineSucceeds r1 r2 r3 = true ∨ lineFails r1 r2 r3 = true) →
    ∃ t : State, step s = .next t ∧ t.env = rest ∧ t.ph = s.ph) ∧
  (∀ r1 r2 r3 : Option Answer, EnvEvent.wf true (.tickLine r1 r2 r3) = true →
    (lineSucceeds r1 r2 r3 = true ∧ lineFails r1 r2 r3 = false) ∨
    (lineSucceeds r1 r2 r3 = false ∧ lineFails r1 r2 r3 = true)) ∧
  (∀ (run : Bool) (r1 r2 r3 : Option Answer), EnvEvent.wf run (.tickLine r1 r2 r3) = true →
    (lineBad r1 18 = true → r2 = none ∧ r3 = none) ∧ (lineBad r2 3 = true → r3 = none)) ∧
  (∀ (s : State) (r1 r2 r3 : Option Answer) (rest : List EnvEvent), s.opSel = none →
    s.env = .tickLine r1 r2 r3 :: rest → (s.run = true → s.ph = .idle) →
    EnvEvent.wf s.run (.tickLine r1 r2 r3) = true → ∃ t : State, step s = .next t ∧ t.env = rest)

/-- In a state that meets the control invariants an awaited answer always makes a step, good or bad. -/
def Obligations.AwaitedAnswersAlwaysStep : Prop :=
  ∀ (s : State) (r : Answer) (rest : List EnvEvent), ControlInv s → s.env = .answer r :: rest → s.ph ≠ .idle →
    ∃ t : State, step s = .next t ∧ t.env = rest

/-- The small steps and the macro step agree: whatever state the one step of a script line ends in, the strobe and the
answers one by one end in exactly the same state, trace included (41_pollcycle_ops.md section 9). -/
def Obligations.SmallStepsAgreeWithMacroStep : Prop :=
  ∀ (s t : State) (r1 r2 r3 : Option Answer) (rest : List EnvEvent), s.opSel = none → s.ph = .idle →
    s.env = .tickLine r1 r2 r3 :: rest → step s = .next t →
    runSteps (lineEvents s.run r1 r2 r3).length { s with env := lineEvents s.run r1 r2 r3 ++ rest } = .next t

/-- R157: three failed ticks in a row, at whichever read each fails, end in RUN = 0; two after a success (FC = 0) do
not; fail, fail, success, fail, fail does not. -/
def Obligations.ThreeConsecutiveFailuresTerminate : Prop :=
  (∀ (s : State) (a1 a2 a3 b1 b2 b3 c1 c2 c3 : Option Answer) (rest : List EnvEvent), ControlInv s → s.run = true →
    s.ph = .idle → s.env = .tickLine a1 a2 a3 :: .tickLine b1 b2 b3 :: .tickLine c1 c2 c3 :: rest →
    lineFails a1 a2 a3 = true → lineFails b1 b2 b3 = true → lineFails c1 c2 c3 = true →
    ∃ t : State, runSteps 3 s = .next t ∧ t.run = false ∧ t.fc = 3 ∧ t.maxp = s.maxp) ∧
  (∀ (s : State) (a1 a2 a3 b1 b2 b3 : Option Answer) (rest : List EnvEvent), ControlInv s → s.fc = 0 → s.ph = .idle →
    s.env = .tickLine a1 a2 a3 :: .tickLine b1 b2 b3 :: rest →
    lineFails a1 a2 a3 = true → lineFails b1 b2 b3 = true →
    ∃ t : State, runSteps 2 s = .next t ∧ t.run = true ∧ t.fc = 2) ∧
  (∀ (s : State) (a1 a2 a3 b1 b2 b3 g1 g2 g3 c1 c2 c3 d1 d2 d3 : Option Answer) (rest : List EnvEvent),
    ControlInv s → s.fc = 0 → s.ph = .idle →
    s.env = .tickLine a1 a2 a3 :: .tickLine b1 b2 b3 :: .tickLine g1 g2 g3 :: .tickLine c1 c2 c3 ::
      .tickLine d1 d2 d3 :: rest →
    lineFails a1 a2 a3 = true → lineFails b1 b2 b3 = true → lineSucceeds g1 g2 g3 = true →
    lineFails c1 c2 c3 = true → lineFails d1 d2 d3 = true →
    ∃ t : State, runSteps 5 s = .next t ∧ t.run = true ∧ t.fc = 2)
end

