-- ==== Sys2Proof/Laws/State.lean ====
section
/-! SUPPORT. One lemma per field per named update of State (Machine/Ops.lean), true by rfl and tagged simp, so that no proof unfolds a record update. -/

namespace Sys2Proof.Machine

/-! ### emit -/

@[simp] theorem State.emit_run (s : State) (e : Event) : (s.emit e).run = s.run := rfl
@[simp] theorem State.emit_fc (s : State) (e : Event) : (s.emit e).fc = s.fc := rfl
@[simp] theorem State.emit_maxp (s : State) (e : Event) : (s.emit e).maxp = s.maxp := rfl
@[simp] theorem State.emit_ytd (s : State) (e : Event) : (s.emit e).ytd = s.ytd := rfl
@[simp] theorem State.emit_ph (s : State) (e : Event) : (s.emit e).ph = s.ph := rfl
@[simp] theorem State.emit_b1 (s : State) (e : Event) : (s.emit e).b1 = s.b1 := rfl
@[simp] theorem State.emit_b2 (s : State) (e : Event) : (s.emit e).b2 = s.b2 := rfl
@[simp] theorem State.emit_b3 (s : State) (e : Event) : (s.emit e).b3 = s.b3 := rfl
@[simp] theorem State.emit_b1w (s : State) (e : Event) : (s.emit e).b1w = s.b1w := rfl
@[simp] theorem State.emit_b2w (s : State) (e : Event) : (s.emit e).b2w = s.b2w := rfl
@[simp] theorem State.emit_b3w (s : State) (e : Event) : (s.emit e).b3w = s.b3w := rfl
@[simp] theorem State.emit_snk (s : State) (e : Event) : (s.emit e).snk = s.snk := rfl
@[simp] theorem State.emit_snkHeld (s : State) (e : Event) : (s.emit e).snkHeld = s.snkHeld := rfl
@[simp] theorem State.emit_draft (s : State) (e : Event) : (s.emit e).draft = s.draft := rfl
@[simp] theorem State.emit_env (s : State) (e : Event) : (s.emit e).env = s.env := rfl
@[simp] theorem State.emit_trace (s : State) (e : Event) : (s.emit e).trace = s.trace ++ [e] := rfl
@[simp] theorem State.emit_opSel (s : State) (e : Event) : (s.emit e).opSel = s.opSel := rfl
@[simp] theorem State.emit_freeIdx (s : State) (e : Event) : (s.emit e).freeIdx = s.freeIdx := rfl

/-! ### dropEvent -/

@[simp] theorem State.dropEvent_run (s : State) : s.dropEvent.run = s.run := rfl
@[simp] theorem State.dropEvent_fc (s : State) : s.dropEvent.fc = s.fc := rfl
@[simp] theorem State.dropEvent_maxp (s : State) : s.dropEvent.maxp = s.maxp := rfl
@[simp] theorem State.dropEvent_ytd (s : State) : s.dropEvent.ytd = s.ytd := rfl
@[simp] theorem State.dropEvent_ph (s : State) : s.dropEvent.ph = s.ph := rfl
@[simp] theorem State.dropEvent_b1 (s : State) : s.dropEvent.b1 = s.b1 := rfl
@[simp] theorem State.dropEvent_b2 (s : State) : s.dropEvent.b2 = s.b2 := rfl
@[simp] theorem State.dropEvent_b3 (s : State) : s.dropEvent.b3 = s.b3 := rfl
@[simp] theorem State.dropEvent_b1w (s : State) : s.dropEvent.b1w = s.b1w := rfl
@[simp] theorem State.dropEvent_b2w (s : State) : s.dropEvent.b2w = s.b2w := rfl
@[simp] theorem State.dropEvent_b3w (s : State) : s.dropEvent.b3w = s.b3w := rfl
@[simp] theorem State.dropEvent_snk (s : State) : s.dropEvent.snk = s.snk := rfl
@[simp] theorem State.dropEvent_snkHeld (s : State) : s.dropEvent.snkHeld = s.snkHeld := rfl
@[simp] theorem State.dropEvent_draft (s : State) : s.dropEvent.draft = s.draft := rfl
@[simp] theorem State.dropEvent_env (s : State) : s.dropEvent.env = s.env.tail := rfl
@[simp] theorem State.dropEvent_trace (s : State) : s.dropEvent.trace = s.trace := rfl
@[simp] theorem State.dropEvent_opSel (s : State) : s.dropEvent.opSel = s.opSel := rfl
@[simp] theorem State.dropEvent_freeIdx (s : State) : s.dropEvent.freeIdx = s.freeIdx := rfl

/-! ### clearSel -/

@[simp] theorem State.clearSel_run (s : State) : s.clearSel.run = s.run := rfl
@[simp] theorem State.clearSel_fc (s : State) : s.clearSel.fc = s.fc := rfl
@[simp] theorem State.clearSel_maxp (s : State) : s.clearSel.maxp = s.maxp := rfl
@[simp] theorem State.clearSel_ytd (s : State) : s.clearSel.ytd = s.ytd := rfl
@[simp] theorem State.clearSel_ph (s : State) : s.clearSel.ph = s.ph := rfl
@[simp] theorem State.clearSel_b1 (s : State) : s.clearSel.b1 = s.b1 := rfl
@[simp] theorem State.clearSel_b2 (s : State) : s.clearSel.b2 = s.b2 := rfl
@[simp] theorem State.clearSel_b3 (s : State) : s.clearSel.b3 = s.b3 := rfl
@[simp] theorem State.clearSel_b1w (s : State) : s.clearSel.b1w = s.b1w := rfl
@[simp] theorem State.clearSel_b2w (s : State) : s.clearSel.b2w = s.b2w := rfl
@[simp] theorem State.clearSel_b3w (s : State) : s.clearSel.b3w = s.b3w := rfl
@[simp] theorem State.clearSel_snk (s : State) : s.clearSel.snk = s.snk := rfl
@[simp] theorem State.clearSel_snkHeld (s : State) : s.clearSel.snkHeld = s.snkHeld := rfl
@[simp] theorem State.clearSel_draft (s : State) : s.clearSel.draft = s.draft := rfl
@[simp] theorem State.clearSel_env (s : State) : s.clearSel.env = s.env := rfl
@[simp] theorem State.clearSel_trace (s : State) : s.clearSel.trace = s.trace := rfl
@[simp] theorem State.clearSel_opSel (s : State) : s.clearSel.opSel = none := rfl
@[simp] theorem State.clearSel_freeIdx (s : State) : s.clearSel.freeIdx = s.freeIdx := rfl

/-! ### setPh -/

@[simp] theorem State.setPh_run (s : State) (p : Phase) : (s.setPh p).run = s.run := rfl
@[simp] theorem State.setPh_fc (s : State) (p : Phase) : (s.setPh p).fc = s.fc := rfl
@[simp] theorem State.setPh_maxp (s : State) (p : Phase) : (s.setPh p).maxp = s.maxp := rfl
@[simp] theorem State.setPh_ytd (s : State) (p : Phase) : (s.setPh p).ytd = s.ytd := rfl
@[simp] theorem State.setPh_ph (s : State) (p : Phase) : (s.setPh p).ph = p := rfl
@[simp] theorem State.setPh_b1 (s : State) (p : Phase) : (s.setPh p).b1 = s.b1 := rfl
@[simp] theorem State.setPh_b2 (s : State) (p : Phase) : (s.setPh p).b2 = s.b2 := rfl
@[simp] theorem State.setPh_b3 (s : State) (p : Phase) : (s.setPh p).b3 = s.b3 := rfl
@[simp] theorem State.setPh_b1w (s : State) (p : Phase) : (s.setPh p).b1w = s.b1w := rfl
@[simp] theorem State.setPh_b2w (s : State) (p : Phase) : (s.setPh p).b2w = s.b2w := rfl
@[simp] theorem State.setPh_b3w (s : State) (p : Phase) : (s.setPh p).b3w = s.b3w := rfl
@[simp] theorem State.setPh_snk (s : State) (p : Phase) : (s.setPh p).snk = s.snk := rfl
@[simp] theorem State.setPh_snkHeld (s : State) (p : Phase) : (s.setPh p).snkHeld = s.snkHeld := rfl
@[simp] theorem State.setPh_draft (s : State) (p : Phase) : (s.setPh p).draft = s.draft := rfl
@[simp] theorem State.setPh_env (s : State) (p : Phase) : (s.setPh p).env = s.env := rfl
@[simp] theorem State.setPh_trace (s : State) (p : Phase) : (s.setPh p).trace = s.trace := rfl
@[simp] theorem State.setPh_opSel (s : State) (p : Phase) : (s.setPh p).opSel = s.opSel := rfl
@[simp] theorem State.setPh_freeIdx (s : State) (p : Phase) : (s.setPh p).freeIdx = s.freeIdx := rfl

/-! ### setFc -/

@[simp] theorem State.setFc_run (s : State) (v : BitVec 2) : (s.setFc v).run = s.run := rfl
@[simp] theorem State.setFc_fc (s : State) (v : BitVec 2) : (s.setFc v).fc = v := rfl
@[simp] theorem State.setFc_maxp (s : State) (v : BitVec 2) : (s.setFc v).maxp = s.maxp := rfl
@[simp] theorem State.setFc_ytd (s : State) (v : BitVec 2) : (s.setFc v).ytd = s.ytd := rfl
@[simp] theorem State.setFc_ph (s : State) (v : BitVec 2) : (s.setFc v).ph = s.ph := rfl
@[simp] theorem State.setFc_b1 (s : State) (v : BitVec 2) : (s.setFc v).b1 = s.b1 := rfl
@[simp] theorem State.setFc_b2 (s : State) (v : BitVec 2) : (s.setFc v).b2 = s.b2 := rfl
@[simp] theorem State.setFc_b3 (s : State) (v : BitVec 2) : (s.setFc v).b3 = s.b3 := rfl
@[simp] theorem State.setFc_b1w (s : State) (v : BitVec 2) : (s.setFc v).b1w = s.b1w := rfl
@[simp] theorem State.setFc_b2w (s : State) (v : BitVec 2) : (s.setFc v).b2w = s.b2w := rfl
@[simp] theorem State.setFc_b3w (s : State) (v : BitVec 2) : (s.setFc v).b3w = s.b3w := rfl
@[simp] theorem State.setFc_snk (s : State) (v : BitVec 2) : (s.setFc v).snk = s.snk := rfl
@[simp] theorem State.setFc_snkHeld (s : State) (v : BitVec 2) : (s.setFc v).snkHeld = s.snkHeld := rfl
@[simp] theorem State.setFc_draft (s : State) (v : BitVec 2) : (s.setFc v).draft = s.draft := rfl
@[simp] theorem State.setFc_env (s : State) (v : BitVec 2) : (s.setFc v).env = s.env := rfl
@[simp] theorem State.setFc_trace (s : State) (v : BitVec 2) : (s.setFc v).trace = s.trace := rfl
@[simp] theorem State.setFc_opSel (s : State) (v : BitVec 2) : (s.setFc v).opSel = s.opSel := rfl
@[simp] theorem State.setFc_freeIdx (s : State) (v : BitVec 2) : (s.setFc v).freeIdx = s.freeIdx := rfl

/-! ### bumpFree -/

@[simp] theorem State.bumpFree_run (s : State) : s.bumpFree.run = s.run := rfl
@[simp] theorem State.bumpFree_fc (s : State) : s.bumpFree.fc = s.fc := rfl
@[simp] theorem State.bumpFree_maxp (s : State) : s.bumpFree.maxp = s.maxp := rfl
@[simp] theorem State.bumpFree_ytd (s : State) : s.bumpFree.ytd = s.ytd := rfl
@[simp] theorem State.bumpFree_ph (s : State) : s.bumpFree.ph = s.ph := rfl
@[simp] theorem State.bumpFree_b1 (s : State) : s.bumpFree.b1 = s.b1 := rfl
@[simp] theorem State.bumpFree_b2 (s : State) : s.bumpFree.b2 = s.b2 := rfl
@[simp] theorem State.bumpFree_b3 (s : State) : s.bumpFree.b3 = s.b3 := rfl
@[simp] theorem State.bumpFree_b1w (s : State) : s.bumpFree.b1w = s.b1w := rfl
@[simp] theorem State.bumpFree_b2w (s : State) : s.bumpFree.b2w = s.b2w := rfl
@[simp] theorem State.bumpFree_b3w (s : State) : s.bumpFree.b3w = s.b3w := rfl
@[simp] theorem State.bumpFree_snk (s : State) : s.bumpFree.snk = s.snk := rfl
@[simp] theorem State.bumpFree_snkHeld (s : State) : s.bumpFree.snkHeld = s.snkHeld := rfl
@[simp] theorem State.bumpFree_draft (s : State) : s.bumpFree.draft = s.draft := rfl
@[simp] theorem State.bumpFree_env (s : State) : s.bumpFree.env = s.env := rfl
@[simp] theorem State.bumpFree_trace (s : State) : s.bumpFree.trace = s.trace := rfl
@[simp] theorem State.bumpFree_opSel (s : State) : s.bumpFree.opSel = s.opSel := rfl
@[simp] theorem State.bumpFree_freeIdx (s : State) : s.bumpFree.freeIdx = s.freeIdx + 1 := rfl

/-! ### terminate -/

@[simp] theorem State.terminate_run (s : State) : s.terminate.run = false := rfl
@[simp] theorem State.terminate_fc (s : State) : s.terminate.fc = s.fc := rfl
@[simp] theorem State.terminate_maxp (s : State) : s.terminate.maxp = s.maxp := rfl
@[simp] theorem State.terminate_ytd (s : State) : s.terminate.ytd = s.ytd := rfl
@[simp] theorem State.terminate_ph (s : State) : s.terminate.ph = s.ph := rfl
@[simp] theorem State.terminate_b1 (s : State) : s.terminate.b1 = s.b1 := rfl
@[simp] theorem State.terminate_b2 (s : State) : s.terminate.b2 = s.b2 := rfl
@[simp] theorem State.terminate_b3 (s : State) : s.terminate.b3 = s.b3 := rfl
@[simp] theorem State.terminate_b1w (s : State) : s.terminate.b1w = s.b1w := rfl
@[simp] theorem State.terminate_b2w (s : State) : s.terminate.b2w = s.b2w := rfl
@[simp] theorem State.terminate_b3w (s : State) : s.terminate.b3w = s.b3w := rfl
@[simp] theorem State.terminate_snk (s : State) : s.terminate.snk = s.snk := rfl
@[simp] theorem State.terminate_snkHeld (s : State) : s.terminate.snkHeld = s.snkHeld := rfl
@[simp] theorem State.terminate_draft (s : State) : s.terminate.draft = s.draft := rfl
@[simp] theorem State.terminate_env (s : State) : s.terminate.env = s.env := rfl
@[simp] theorem State.terminate_trace (s : State) : s.terminate.trace = s.trace := rfl
@[simp] theorem State.terminate_opSel (s : State) : s.terminate.opSel = s.opSel := rfl
@[simp] theorem State.terminate_freeIdx (s : State) : s.terminate.freeIdx = s.freeIdx := rfl

/-! ### setMaxp -/

@[simp] theorem State.setMaxp_run (s : State) (v : BitVec 32) : (s.setMaxp v).run = s.run := rfl
@[simp] theorem State.setMaxp_fc (s : State) (v : BitVec 32) : (s.setMaxp v).fc = s.fc := rfl
@[simp] theorem State.setMaxp_maxp (s : State) (v : BitVec 32) : (s.setMaxp v).maxp = v := rfl
@[simp] theorem State.setMaxp_ytd (s : State) (v : BitVec 32) : (s.setMaxp v).ytd = s.ytd := rfl
@[simp] theorem State.setMaxp_ph (s : State) (v : BitVec 32) : (s.setMaxp v).ph = s.ph := rfl
@[simp] theorem State.setMaxp_b1 (s : State) (v : BitVec 32) : (s.setMaxp v).b1 = s.b1 := rfl
@[simp] theorem State.setMaxp_b2 (s : State) (v : BitVec 32) : (s.setMaxp v).b2 = s.b2 := rfl
@[simp] theorem State.setMaxp_b3 (s : State) (v : BitVec 32) : (s.setMaxp v).b3 = s.b3 := rfl
@[simp] theorem State.setMaxp_b1w (s : State) (v : BitVec 32) : (s.setMaxp v).b1w = s.b1w := rfl
@[simp] theorem State.setMaxp_b2w (s : State) (v : BitVec 32) : (s.setMaxp v).b2w = s.b2w := rfl
@[simp] theorem State.setMaxp_b3w (s : State) (v : BitVec 32) : (s.setMaxp v).b3w = s.b3w := rfl
@[simp] theorem State.setMaxp_snk (s : State) (v : BitVec 32) : (s.setMaxp v).snk = s.snk := rfl
@[simp] theorem State.setMaxp_snkHeld (s : State) (v : BitVec 32) : (s.setMaxp v).snkHeld = s.snkHeld := rfl
@[simp] theorem State.setMaxp_draft (s : State) (v : BitVec 32) : (s.setMaxp v).draft = s.draft := rfl
@[simp] theorem State.setMaxp_env (s : State) (v : BitVec 32) : (s.setMaxp v).env = s.env := rfl
@[simp] theorem State.setMaxp_trace (s : State) (v : BitVec 32) : (s.setMaxp v).trace = s.trace := rfl
@[simp] theorem State.setMaxp_opSel (s : State) (v : BitVec 32) : (s.setMaxp v).opSel = s.opSel := rfl
@[simp] theorem State.setMaxp_freeIdx (s : State) (v : BitVec 32) : (s.setMaxp v).freeIdx = s.freeIdx := rfl

/-! ### loadB1 -/

@[simp] theorem State.loadB1_run (s : State) (ws : Vector Word 18) : (s.loadB1 ws).run = s.run := rfl
@[simp] theorem State.loadB1_fc (s : State) (ws : Vector Word 18) : (s.loadB1 ws).fc = s.fc := rfl
@[simp] theorem State.loadB1_maxp (s : State) (ws : Vector Word 18) : (s.loadB1 ws).maxp = s.maxp := rfl
@[simp] theorem State.loadB1_ytd (s : State) (ws : Vector Word 18) : (s.loadB1 ws).ytd = s.ytd := rfl
@[simp] theorem State.loadB1_ph (s : State) (ws : Vector Word 18) : (s.loadB1 ws).ph = s.ph := rfl
@[simp] theorem State.loadB1_b1 (s : State) (ws : Vector Word 18) : (s.loadB1 ws).b1 = ws := rfl
@[simp] theorem State.loadB1_b2 (s : State) (ws : Vector Word 18) : (s.loadB1 ws).b2 = s.b2 := rfl
@[simp] theorem State.loadB1_b3 (s : State) (ws : Vector Word 18) : (s.loadB1 ws).b3 = s.b3 := rfl
@[simp] theorem State.loadB1_b1w (s : State) (ws : Vector Word 18) : (s.loadB1 ws).b1w = true := rfl
@[simp] theorem State.loadB1_b2w (s : State) (ws : Vector Word 18) : (s.loadB1 ws).b2w = s.b2w := rfl
@[simp] theorem State.loadB1_b3w (s : State) (ws : Vector Word 18) : (s.loadB1 ws).b3w = s.b3w := rfl
@[simp] theorem State.loadB1_snk (s : State) (ws : Vector Word 18) : (s.loadB1 ws).snk = s.snk := rfl
@[simp] theorem State.loadB1_snkHeld (s : State) (ws : Vector Word 18) : (s.loadB1 ws).snkHeld = s.snkHeld := rfl
@[simp] theorem State.loadB1_draft (s : State) (ws : Vector Word 18) : (s.loadB1 ws).draft = s.draft := rfl
@[simp] theorem State.loadB1_env (s : State) (ws : Vector Word 18) : (s.loadB1 ws).env = s.env := rfl
@[simp] theorem State.loadB1_trace (s : State) (ws : Vector Word 18) : (s.loadB1 ws).trace = s.trace := rfl
@[simp] theorem State.loadB1_opSel (s : State) (ws : Vector Word 18) : (s.loadB1 ws).opSel = s.opSel := rfl
@[simp] theorem State.loadB1_freeIdx (s : State) (ws : Vector Word 18) : (s.loadB1 ws).freeIdx = s.freeIdx := rfl

/-! ### loadB2 -/

@[simp] theorem State.loadB2_run (s : State) (ws : Vector Word 3) : (s.loadB2 ws).run = s.run := rfl
@[simp] theorem State.loadB2_fc (s : State) (ws : Vector Word 3) : (s.loadB2 ws).fc = s.fc := rfl
@[simp] theorem State.loadB2_maxp (s : State) (ws : Vector Word 3) : (s.loadB2 ws).maxp = s.maxp := rfl
@[simp] theorem State.loadB2_ytd (s : State) (ws : Vector Word 3) : (s.loadB2 ws).ytd = s.ytd := rfl
@[simp] theorem State.loadB2_ph (s : State) (ws : Vector Word 3) : (s.loadB2 ws).ph = s.ph := rfl
@[simp] theorem State.loadB2_b1 (s : State) (ws : Vector Word 3) : (s.loadB2 ws).b1 = s.b1 := rfl
@[simp] theorem State.loadB2_b2 (s : State) (ws : Vector Word 3) : (s.loadB2 ws).b2 = ws := rfl
@[simp] theorem State.loadB2_b3 (s : State) (ws : Vector Word 3) : (s.loadB2 ws).b3 = s.b3 := rfl
@[simp] theorem State.loadB2_b1w (s : State) (ws : Vector Word 3) : (s.loadB2 ws).b1w = s.b1w := rfl
@[simp] theorem State.loadB2_b2w (s : State) (ws : Vector Word 3) : (s.loadB2 ws).b2w = true := rfl
@[simp] theorem State.loadB2_b3w (s : State) (ws : Vector Word 3) : (s.loadB2 ws).b3w = s.b3w := rfl
@[simp] theorem State.loadB2_snk (s : State) (ws : Vector Word 3) : (s.loadB2 ws).snk = s.snk := rfl
@[simp] theorem State.loadB2_snkHeld (s : State) (ws : Vector Word 3) : (s.loadB2 ws).snkHeld = s.snkHeld := rfl
@[simp] theorem State.loadB2_draft (s : State) (ws : Vector Word 3) : (s.loadB2 ws).draft = s.draft := rfl
@[simp] theorem State.loadB2_env (s : State) (ws : Vector Word 3) : (s.loadB2 ws).env = s.env := rfl
@[simp] theorem State.loadB2_trace (s : State) (ws : Vector Word 3) : (s.loadB2 ws).trace = s.trace := rfl
@[simp] theorem State.loadB2_opSel (s : State) (ws : Vector Word 3) : (s.loadB2 ws).opSel = s.opSel := rfl
@[simp] theorem State.loadB2_freeIdx (s : State) (ws : Vector Word 3) : (s.loadB2 ws).freeIdx = s.freeIdx := rfl

/-! ### loadB3 -/

@[simp] theorem State.loadB3_run (s : State) (ws : Vector Word 20) : (s.loadB3 ws).run = s.run := rfl
@[simp] theorem State.loadB3_fc (s : State) (ws : Vector Word 20) : (s.loadB3 ws).fc = s.fc := rfl
@[simp] theorem State.loadB3_maxp (s : State) (ws : Vector Word 20) : (s.loadB3 ws).maxp = s.maxp := rfl
@[simp] theorem State.loadB3_ytd (s : State) (ws : Vector Word 20) : (s.loadB3 ws).ytd = s.ytd := rfl
@[simp] theorem State.loadB3_ph (s : State) (ws : Vector Word 20) : (s.loadB3 ws).ph = s.ph := rfl
@[simp] theorem State.loadB3_b1 (s : State) (ws : Vector Word 20) : (s.loadB3 ws).b1 = s.b1 := rfl
@[simp] theorem State.loadB3_b2 (s : State) (ws : Vector Word 20) : (s.loadB3 ws).b2 = s.b2 := rfl
@[simp] theorem State.loadB3_b3 (s : State) (ws : Vector Word 20) : (s.loadB3 ws).b3 = ws := rfl
@[simp] theorem State.loadB3_b1w (s : State) (ws : Vector Word 20) : (s.loadB3 ws).b1w = s.b1w := rfl
@[simp] theorem State.loadB3_b2w (s : State) (ws : Vector Word 20) : (s.loadB3 ws).b2w = s.b2w := rfl
@[simp] theorem State.loadB3_b3w (s : State) (ws : Vector Word 20) : (s.loadB3 ws).b3w = true := rfl
@[simp] theorem State.loadB3_snk (s : State) (ws : Vector Word 20) : (s.loadB3 ws).snk = s.snk := rfl
@[simp] theorem State.loadB3_snkHeld (s : State) (ws : Vector Word 20) : (s.loadB3 ws).snkHeld = s.snkHeld := rfl
@[simp] theorem State.loadB3_draft (s : State) (ws : Vector Word 20) : (s.loadB3 ws).draft = s.draft := rfl
@[simp] theorem State.loadB3_env (s : State) (ws : Vector Word 20) : (s.loadB3 ws).env = s.env := rfl
@[simp] theorem State.loadB3_trace (s : State) (ws : Vector Word 20) : (s.loadB3 ws).trace = s.trace := rfl
@[simp] theorem State.loadB3_opSel (s : State) (ws : Vector Word 20) : (s.loadB3 ws).opSel = s.opSel := rfl
@[simp] theorem State.loadB3_freeIdx (s : State) (ws : Vector Word 20) : (s.loadB3 ws).freeIdx = s.freeIdx := rfl

/-! ### clampB1 -/

@[simp] theorem State.clampB1_run (s : State) : s.clampB1.run = s.run := rfl
@[simp] theorem State.clampB1_fc (s : State) : s.clampB1.fc = s.fc := rfl
@[simp] theorem State.clampB1_maxp (s : State) : s.clampB1.maxp = s.maxp := rfl
@[simp] theorem State.clampB1_ytd (s : State) : s.clampB1.ytd = s.ytd := rfl
@[simp] theorem State.clampB1_ph (s : State) : s.clampB1.ph = s.ph := rfl
@[simp] theorem State.clampB1_b1 (s : State) : s.clampB1.b1 = clampBank s.b1 := rfl
@[simp] theorem State.clampB1_b2 (s : State) : s.clampB1.b2 = s.b2 := rfl
@[simp] theorem State.clampB1_b3 (s : State) : s.clampB1.b3 = s.b3 := rfl
@[simp] theorem State.clampB1_b1w (s : State) : s.clampB1.b1w = s.b1w := rfl
@[simp] theorem State.clampB1_b2w (s : State) : s.clampB1.b2w = s.b2w := rfl
@[simp] theorem State.clampB1_b3w (s : State) : s.clampB1.b3w = s.b3w := rfl
@[simp] theorem State.clampB1_snk (s : State) : s.clampB1.snk = s.snk := rfl
@[simp] theorem State.clampB1_snkHeld (s : State) : s.clampB1.snkHeld = s.snkHeld := rfl
@[simp] theorem State.clampB1_draft (s : State) : s.clampB1.draft = s.draft := rfl
@[simp] theorem State.clampB1_env (s : State) : s.clampB1.env = s.env := rfl
@[simp] theorem State.clampB1_trace (s : State) : s.clampB1.trace = s.trace := rfl
@[simp] theorem State.clampB1_opSel (s : State) : s.clampB1.opSel = s.opSel := rfl
@[simp] theorem State.clampB1_freeIdx (s : State) : s.clampB1.freeIdx = s.freeIdx := rfl

/-! ### setDraft -/

@[simp] theorem State.setDraft_run (s : State) (d : Draft) : (s.setDraft d).run = s.run := rfl
@[simp] theorem State.setDraft_fc (s : State) (d : Draft) : (s.setDraft d).fc = s.fc := rfl
@[simp] theorem State.setDraft_maxp (s : State) (d : Draft) : (s.setDraft d).maxp = s.maxp := rfl
@[simp] theorem State.setDraft_ytd (s : State) (d : Draft) : (s.setDraft d).ytd = s.ytd := rfl
@[simp] theorem State.setDraft_ph (s : State) (d : Draft) : (s.setDraft d).ph = s.ph := rfl
@[simp] theorem State.setDraft_b1 (s : State) (d : Draft) : (s.setDraft d).b1 = s.b1 := rfl
@[simp] theorem State.setDraft_b2 (s : State) (d : Draft) : (s.setDraft d).b2 = s.b2 := rfl
@[simp] theorem State.setDraft_b3 (s : State) (d : Draft) : (s.setDraft d).b3 = s.b3 := rfl
@[simp] theorem State.setDraft_b1w (s : State) (d : Draft) : (s.setDraft d).b1w = s.b1w := rfl
@[simp] theorem State.setDraft_b2w (s : State) (d : Draft) : (s.setDraft d).b2w = s.b2w := rfl
@[simp] theorem State.setDraft_b3w (s : State) (d : Draft) : (s.setDraft d).b3w = s.b3w := rfl
@[simp] theorem State.setDraft_snk (s : State) (d : Draft) : (s.setDraft d).snk = s.snk := rfl
@[simp] theorem State.setDraft_snkHeld (s : State) (d : Draft) : (s.setDraft d).snkHeld = s.snkHeld := rfl
@[simp] theorem State.setDraft_draft (s : State) (d : Draft) : (s.setDraft d).draft = d := rfl
@[simp] theorem State.setDraft_env (s : State) (d : Draft) : (s.setDraft d).env = s.env := rfl
@[simp] theorem State.setDraft_trace (s : State) (d : Draft) : (s.setDraft d).trace = s.trace := rfl
@[simp] theorem State.setDraft_opSel (s : State) (d : Draft) : (s.setDraft d).opSel = s.opSel := rfl
@[simp] theorem State.setDraft_freeIdx (s : State) (d : Draft) : (s.setDraft d).freeIdx = s.freeIdx := rfl

/-! ### setSnk -/

@[simp] theorem State.setSnk_run (s : State) (b : Bundle) : (s.setSnk b).run = s.run := rfl
@[simp] theorem State.setSnk_fc (s : State) (b : Bundle) : (s.setSnk b).fc = s.fc := rfl
@[simp] theorem State.setSnk_maxp (s : State) (b : Bundle) : (s.setSnk b).maxp = s.maxp := rfl
@[simp] theorem State.setSnk_ytd (s : State) (b : Bundle) : (s.setSnk b).ytd = s.ytd := rfl
@[simp] theorem State.setSnk_ph (s : State) (b : Bundle) : (s.setSnk b).ph = s.ph := rfl
@[simp] theorem State.setSnk_b1 (s : State) (b : Bundle) : (s.setSnk b).b1 = s.b1 := rfl
@[simp] theorem State.setSnk_b2 (s : State) (b : Bundle) : (s.setSnk b).b2 = s.b2 := rfl
@[simp] theorem State.setSnk_b3 (s : State) (b : Bundle) : (s.setSnk b).b3 = s.b3 := rfl
@[simp] theorem State.setSnk_b1w (s : State) (b : Bundle) : (s.setSnk b).b1w = s.b1w := rfl
@[simp] theorem State.setSnk_b2w (s : State) (b : Bundle) : (s.setSnk b).b2w = s.b2w := rfl
@[simp] theorem State.setSnk_b3w (s : State) (b : Bundle) : (s.setSnk b).b3w = s.b3w := rfl
@[simp] theorem State.setSnk_snk (s : State) (b : Bundle) : (s.setSnk b).snk = b := rfl
@[simp] theorem State.setSnk_snkHeld (s : State) (b : Bundle) : (s.setSnk b).snkHeld = true := rfl
@[simp] theorem State.setSnk_draft (s : State) (b : Bundle) : (s.setSnk b).draft = s.draft := rfl
@[simp] theorem State.setSnk_env (s : State) (b : Bundle) : (s.setSnk b).env = s.env := rfl
@[simp] theorem State.setSnk_trace (s : State) (b : Bundle) : (s.setSnk b).trace = s.trace := rfl
@[simp] theorem State.setSnk_opSel (s : State) (b : Bundle) : (s.setSnk b).opSel = s.opSel := rfl
@[simp] theorem State.setSnk_freeIdx (s : State) (b : Bundle) : (s.setSnk b).freeIdx = s.freeIdx := rfl

/-! ### discard -/

@[simp] theorem State.discard_run (s : State) : s.discard.run = s.run := rfl
@[simp] theorem State.discard_fc (s : State) : s.discard.fc = s.fc := rfl
@[simp] theorem State.discard_maxp (s : State) : s.discard.maxp = s.maxp := rfl
@[simp] theorem State.discard_ytd (s : State) : s.discard.ytd = s.ytd := rfl
@[simp] theorem State.discard_ph (s : State) : s.discard.ph = s.ph := rfl
@[simp] theorem State.discard_b1 (s : State) : s.discard.b1 = s.b1 := rfl
@[simp] theorem State.discard_b2 (s : State) : s.discard.b2 = s.b2 := rfl
@[simp] theorem State.discard_b3 (s : State) : s.discard.b3 = s.b3 := rfl
@[simp] theorem State.discard_b1w (s : State) : s.discard.b1w = false := rfl
@[simp] theorem State.discard_b2w (s : State) : s.discard.b2w = false := rfl
@[simp] theorem State.discard_b3w (s : State) : s.discard.b3w = false := rfl
@[simp] theorem State.discard_snk (s : State) : s.discard.snk = s.snk := rfl
@[simp] theorem State.discard_snkHeld (s : State) : s.discard.snkHeld = s.snkHeld := rfl
@[simp] theorem State.discard_draft (s : State) : s.discard.draft = Draft.empty := rfl
@[simp] theorem State.discard_env (s : State) : s.discard.env = s.env := rfl
@[simp] theorem State.discard_trace (s : State) : s.discard.trace = s.trace := rfl
@[simp] theorem State.discard_opSel (s : State) : s.discard.opSel = s.opSel := rfl
@[simp] theorem State.discard_freeIdx (s : State) : s.discard.freeIdx = s.freeIdx := rfl

/-! ### Requests are events -/

@[simp] theorem State.request1_eq (s : State) : s.request1 = s.emit (.req blk1Base 18#8) := rfl
@[simp] theorem State.request2_eq (s : State) : s.request2 = s.emit (.req blk2Base 3#8) := rfl
@[simp] theorem State.request3_eq (s : State) : s.request3 = s.emit (.req blk3Base 20#8) := rfl

end Sys2Proof.Machine
end

