-- ==== Sys2Proof/Laws/Ops.lean ====
section
/-! SUPPORT. One lemma per shared operation that says once everything it can do; proofs cite it and do not unfold the operation. -/

namespace Sys2Proof.Machine

/-! ### Sequencing -/

@[simp] theorem andThen_next (s : State) (f : State → Result) : andThen (.next s) f = f s := rfl
@[simp] theorem andThen_fault (r : Fault) (f : State → Result) : andThen (.fault r) f = .fault r := rfl
@[simp] theorem andThen_refused (r : Refusal) (f : State → Result) : andThen (.refused r) f = .refused r := rfl

/-- A sequence answers next only if its first part did. -/
theorem andThen_eq_next {o : Result} {f : State → Result} {t : State} (h : andThen o f = .next t) :
    ∃ s, o = .next s ∧ f s = .next t := by
  cases o with
  | next s => exact ⟨s, rfl, h⟩
  | fault r => cases h
  | refused r => cases h

/-! ### Answers (R54) -/

theorem Answer_good_eq (r : Answer) (n : Nat) : r.good n = !r.bad n := rfl

theorem Answer_words_isSome (r : Answer) (n : Nat) : (r.words n).isSome = r.good n := by
  cases r with
  | err => rfl
  | ok ws => by_cases h : ws.length = n <;> simp [Answer.words, Answer.good, Answer.bad, h]

theorem Answer_words_eq_none (r : Answer) (n : Nat) : r.words n = none ↔ r.bad n = true := by
  have h := Answer_words_isSome r n
  rw [Answer_good_eq] at h
  cases hw : r.words n <;> simp_all

theorem lineWords_isSome (r : Option Answer) (n : Nat) :
    (lineWords r n).isSome = (r.isSome && !lineBad r n) := by
  cases r with
  | none => rfl
  | some a => simp [lineWords, lineBad, Answer_words_isSome, Answer.good]

theorem lineWords_eq_none (r : Option Answer) (n : Nat) : lineWords r n = none ↔ r = none ∨ lineBad r n = true := by
  cases r with
  | none => simp [lineWords]
  | some a => simp [lineWords, lineBad, Answer_words_eq_none]

/-! ### Scaled values and sink ports (R34, R35, R89) -/

@[simp] theorem scaledPort_denotes {w : Nat} (n : Scaled w) : (scaledPort n).denotes = some (scaledValue n) := rfl

@[simp] theorem scaledPort_number {w : Nat} (n : Scaled w) : (scaledPort n).number = n.toNat := rfl

/-- After a publish the environment reads the bundle, port by port. -/
@[simp] theorem State.sinkPort_setSnk (s : State) (b : Bundle) (p : Nat) : (s.setSnk b).sinkPort p = b.port p := rfl

/-- Before the first publish there is nothing to read. -/
theorem State.sinkPort_of_not_held {s : State} (h : s.snkHeld = false) (p : Nat) : s.sinkPort p = none := by
  simp [State.sinkPort, h]

/-! ### The clamp (R111) -/

theorem clampWord_toNat (w : Word) : (clampWord w).toNat = max w.toNat 1 := by
  unfold clampWord
  split
  · subst w; decide
  · have : w.toNat ≠ 0 := fun h => ‹¬w = 0› (BitVec.eq_of_toNat_eq (by simpa using h))
    omega

@[simp] theorem clampWord_clampWord (w : Word) : clampWord (clampWord w) = clampWord w := by
  unfold clampWord; split <;> simp_all

@[simp] theorem clampBank_clampBank (b1 : Vector Word 18) : clampBank (clampBank b1) = clampBank b1 := by
  simp [clampBank]

/-- What any read of the clamped bank gives. -/
theorem clampBank_get (b1 : Vector Word 18) (k : Fin 18) :
    (clampBank b1)[k] = if k.val = 0 then clampWord b1[0] else b1[k] := by
  rcases k with ⟨k, hk⟩
  simp only [clampBank, Fin.getElem_fin, Vector.getElem_set]
  by_cases h : k = 0 <;> simp [h, eq_comm]

/-! ### The failure counter, termination and the response to an error (R146, R147, R178) -/

/-- Everything FCINC can do. -/
theorem fcIncrement_cases (s : State) :
    (s.fc ≠ 3 ∧ fcIncrement s = s.setFc (s.fc + 1)) ∨
    (s.fc = 3 ∧ fcIncrement s = (s.setFc (Config.fcincFromThree s.freeIdx)).bumpFree) := by
  unfold fcIncrement
  split
  · exact .inr ⟨‹_›, rfl⟩
  · exact .inl ⟨‹_›, rfl⟩

/-- Everything HALTCHK can do. -/
theorem haltCheck_cases (s : State) :
    (3 ≤ s.fc.toNat ∧ haltCheck s = s.terminate.emit .halt) ∨ (s.fc.toNat < 3 ∧ haltCheck s = s) := by
  unfold haltCheck haltDue failThreshold
  split
  · exact .inl ⟨by simp_all, rfl⟩
  · exact .inr ⟨by simp_all, rfl⟩

/-! ### Reading banks (R23) -/

theorem withBank1_next {s t : State} {f : Vector Word 18 → Result} (h : withBank1 s f = .next t) :
    s.b1w = true ∧ f (clampBank s.b1) = .next t := by
  unfold withBank1 at h; split at h
  · exact ⟨‹_›, h⟩
  · cases h

theorem withBank2_next {s t : State} {f : Vector Word 3 → Result} (h : withBank2 s f = .next t) :
    s.b2w = true ∧ f s.b2 = .next t := by
  unfold withBank2 at h; split at h
  · exact ⟨‹_›, h⟩
  · cases h

theorem withBank3_next {s t : State} {f : Vector Word 20 → Result} (h : withBank3 s f = .next t) :
    s.b3w = true ∧ f s.b3 = .next t := by
  unfold withBank3 at h; split at h
  · exact ⟨‹_›, h⟩
  · cases h

theorem clampOp_next {s t : State} (h : clampOp s = .next t) : s.b1w = true ∧ t = s.clampB1 := by
  unfold clampOp at h; split at h
  · exact ⟨‹_›, by cases h; rfl⟩
  · cases h

theorem decodeOp_next {s t : State} (h : decodeOp s = .next t) :
    (s.b1w = true ∧ s.b2w = true ∧ s.b3w = true) ∧
    t = s.clampB1.setDraft (s.draft.withSnapshot (decodeBanks Config.active s.b1 s.b2 s.b3)) := by
  unfold decodeOp at h; split at h
  · exact ⟨by simp_all, by cases h; rfl⟩
  · cases h

theorem peakOp_next {s t : State} (h : peakOp s = .next t) :
    ∃ yp, s.draft.yieldPower = some yp ∧ t = if newPeak yp s.maxp then s.setMaxp yp else s := by
  unfold peakOp at h; split at h
  · exact ⟨_, ‹_›, by cases h; rfl⟩
  · cases h

theorem publishOp_next {s t : State} (h : publishOp s = .next t) :
    ∃ b, (outMaxpOp s).draft.bundle = some b ∧ t = ((outMaxpOp s).emit (.pub b)).setSnk b := by
  unfold publishOp at h; split at h
  · exact ⟨_, ‹_›, by cases h; rfl⟩
  · cases h

@[simp] theorem Draft.snapshot_withSnapshot (d : Draft) (p : Snapshot) : (d.withSnapshot p).snapshot = some p := rfl

@[simp] theorem Draft.maxPowerToday_withSnapshot (d : Draft) (p : Snapshot) :
    (d.withSnapshot p).maxPowerToday = d.maxPowerToday := rfl

/-- What a full success leaves, all fields at once (R144, R151), where the three banks are written. -/
theorem succeed_eq (s : State) (h1 : s.b1w = true) (h2 : s.b2w = true) (h3 : s.b3w = true) :
    succeed s = .next
      { s with
        fc := 0
        maxp := if newPeak (decodeBanks Config.active s.b1 s.b2 s.b3).yieldPower s.maxp
          then (decodeBanks Config.active s.b1 s.b2 s.b3).yieldPower else s.maxp
        ph := .idle
        b1 := clampBank s.b1
        b1w := false
        b2w := false
        b3w := false
        snk := ⟨decodeBanks Config.active s.b1 s.b2 s.b3,
          if newPeak (decodeBanks Config.active s.b1 s.b2 s.b3).yieldPower s.maxp
          then (decodeBanks Config.active s.b1 s.b2 s.b3).yieldPower else s.maxp⟩
        snkHeld := true
        draft := Draft.empty
        trace := s.trace ++ [.pub ⟨decodeBanks Config.active s.b1 s.b2 s.b3,
          if newPeak (decodeBanks Config.active s.b1 s.b2 s.b3).yieldPower s.maxp
          then (decodeBanks Config.active s.b1 s.b2 s.b3).yieldPower else s.maxp⟩] } := by
  simp only [succeed, decodeOp, fcClear, State.setFc_b1w, State.setFc_b2w, State.setFc_b3w, h1, h2, h3, Bool.and_self, if_true,
    andThen_next, peakOp, State.setDraft_draft, Draft.withSnapshot]
  cases hp : newPeak (decodeBanks Config.active s.b1 s.b2 s.b3).yieldPower s.maxp <;>
    simp [hp, publishOp, outMaxpOp, Draft.bundle, Draft.snapshot, endTick, State.setDraft, State.setSnk, State.emit, State.setMaxp,
      State.discard, State.setPh, State.clampB1, State.setFc]

/-! ### Answers to the read in flight (R142 to R144, R171, R175) -/

/-- Everything an answer step can do when it answers next. -/
theorem onAnswer_next {s t : State} {p : Phase} {n : Nat} {good : Vector Word n → State → Result}
    (h : onAnswer s p n good = .next t) :
    s.ph = p ∧ ∃ r rest, s.env = .answer r :: rest ∧
      ((∃ ws, r.words n = some ws ∧ good ws s.dropEvent = .next t) ∨
       (r.bad n = true ∧ t = transportError s.dropEvent)) := by
  unfold onAnswer at h
  split at h
  · refine ⟨‹_›, ?_⟩
    split at h
    · rename_i r rest he
      refine ⟨r, rest, he, ?_⟩
      split at h
      · exact .inl ⟨_, ‹_›, h⟩
      · exact .inr ⟨(Answer_words_eq_none _ _).1 ‹_›, by cases h; rfl⟩
    · cases h
  · cases h

/-! ### Whole ticks (R140, R93) -/

/-- A whole-tick operation answers next only on a script line, with `RUN = 1` and `PH = 0`. -/
theorem onTickLine_next {s t : State} {f : Option Answer → Option Answer → Option Answer → Result}
    (h : onTickLine s f = .next t) :
    ∃ r1 r2 r3 rest, s.env = .tickLine r1 r2 r3 :: rest ∧ s.run = true ∧ s.ph = .idle ∧ f r1 r2 r3 = .next t := by
  unfold onTickLine at h
  split at h
  · rename_i r1 r2 r3 rest he
    split at h
    · cases h
    · split at h
      · exact ⟨r1, r2, r3, rest, he, by simp_all, ‹_›, h⟩
      · cases h
  · cases h

/-! ### The step (R14, R15) -/

/-- Everything a step can do when it answers next. -/
theorem step_cases {s t : State} (h : step s = .next t) :
    (select s = .reset ∧ t = applyReset s) ∨
    (∃ sel i, select s = .op sel ∧ decode sel = .ok i ∧ exec i s.clearSel = .next t) ∨
    (select s = .close ∧ closeTick s = .next t) ∨
    (select s = .ignore ∧ t = s.dropEvent) ∨
    (select s = .rest ∧ t = s) := by
  unfold step at h
  split at h
  · exact .inl ⟨‹_›, by cases h; rfl⟩
  · split at h
    · exact .inr (.inl ⟨_, _, ‹_›, ‹_›, h⟩)
    · cases h
  · exact .inr (.inr (.inl ⟨‹_›, h⟩))
  · exact .inr (.inr (.inr (.inl ⟨‹_›, by cases h; rfl⟩)))
  · exact .inr (.inr (.inr (.inr ⟨‹_›, by cases h; rfl⟩)))
  · cases h
  · cases h

end Sys2Proof.Machine
end

