-- ==== Sys2Proof/Laws/PerInstr.lean ====
section
/-! SUPPORT. The family EncodingFits: the selector word of every operation fits the width of its format (R82, R91 to R93), one lemma per constructor. -/

namespace Sys2Proof.Laws.EncodingFits

/-- The word of the operation's selector has no bit above its format's width. -/
def Statement (i : Instr) : Prop := (encode i).word.toNat < 2 ^ (encode i).fmt.width

theorem rdblk1 : Statement .rdblk1 := by unfold Statement; decide
theorem rdblk2 : Statement .rdblk2 := by unfold Statement; decide
theorem rdblk3 : Statement .rdblk3 := by unfold Statement; decide
theorem decDcv : Statement .decDcv := by unfold Statement; decide
theorem decDci : Statement .decDci := by unfold Statement; decide
theorem decDct : Statement .decDct := by unfold Statement; decide
theorem decPvv : Statement .decPvv := by unfold Statement; decide
theorem decYp : Statement .decYp := by unfold Statement; decide
theorem decLdi : Statement .decLdi := by unfold Statement; decide
theorem decSt : Statement .decSt := by unfold Statement; decide
theorem decLds : Statement .decLds := by unfold Statement; decide
theorem decDy : Statement .decDy := by unfold Statement; decide
theorem decErr : Statement .decErr := by unfold Statement; decide
theorem outMaxp : Statement .outMaxp := by unfold Statement; decide
theorem fcclr : Statement .fcclr := by unfold Statement; decide
theorem clamp : Statement .clamp := by unfold Statement; decide
theorem decode : Statement .decode := by unfold Statement; decide
theorem peak : Statement .peak := by unfold Statement; decide
theorem pub : Statement .pub := by unfold Statement; decide
theorem fcinc : Statement .fcinc := by unfold Statement; decide
theorem haltchk : Statement .haltchk := by unfold Statement; decide
theorem tickOk : Statement .tickOk := by unfold Statement; decide
theorem tickF1 (e2 e3 : Bool) : Statement (.tickF1 e2 e3) := by unfold Statement; revert e2 e3; decide
theorem tickF2 (e3 : Bool) : Statement (.tickF2 e3) := by unfold Statement; revert e3; decide
theorem tickF3 : Statement .tickF3 := by unfold Statement; decide
theorem tickNop (e1 e2 e3 : Bool) : Statement (.tickNop e1 e2 e3) := by unfold Statement; revert e1 e2 e3; decide

end Sys2Proof.Laws.EncodingFits
end

