-- ==== Sys2Proof/Laws/Step.lean ====
section
/-! SUPPORT. What a step of the block itself can do, said once (no selector word presented), and small lemmas on script lines, traces and the response to an error. -/

namespace Sys2Proof.Machine

/-! ### Small lemmas -/

theorem State.clearSel_of_none {s : State} (h : s.opSel = none) : s.clearSel = s := by
  cases s; simp_all [State.clearSel]

theorem State.dropEvent_of_cons {s : State} {e : EnvEvent} {rest : List EnvEvent} (h : s.env = e :: rest) :
    s.dropEvent = { s with env := rest } := by simp [State.dropEvent, h]

@[simp] theorem Answer_words_toList {n : Nat} (v : Vector Word n) : (Answer.ok v.toList).words n = some v := by
  simp [Answer.words]; rfl

theorem pubsOf_append (a b : List Event) : pubsOf (a ++ b) = pubsOf a ++ pubsOf b := by
  induction a with
  | nil => rfl
  | cons e es ih => cases e <;> simp [pubsOf, ih]

theorem lineGood_iff (r : Option Answer) (n : Nat) : lineGood r n = (lineWords r n).isSome := by
  cases r with
  | none => rfl
  | some a => simp [lineGood, lineWords, Answer_words_isSome]

@[simp] theorem runSteps_zero (s : State) : runSteps 0 s = .next s := rfl

theorem runSteps_succ {k : Nat} {s t : State} (h : step s = .next t) : runSteps (k + 1) s = runSteps k t := by
  simp [runSteps, h]

/-- `runSteps` is the host's run of the machine. -/
theorem runSteps_eq_run (k : Nat) (s : State) : runSteps k s = Host.Core.run Sys2Proof.core k s := by
  induction k generalizing s with
  | zero => rfl
  | succ k ih =>
    have hs : Sys2Proof.core.step s = step s := rfl
    simp only [runSteps, Host.Core.run, hs]
    cases step s with
    | next t => exact ih t
    | fault r => rfl
    | refused r => rfl

/-- The response to a TransportError from a count below 3, field by field (R178). -/
theorem transportError_eq (s : State) (hr : s.run = true) (hf : s.fc.toNat < 3) :
    transportError s = failedTick s s.env [] := by
  have h3 : s.fc ≠ 3 := fun h => by rw [h] at hf; exact absurd hf (by decide)
  have e : (s.setFc (s.fc + 1)).fc.toNat = s.fc.toNat + 1 := by simp [BitVec.toNat_add]; omega
  rcases fcIncrement_cases s with ⟨-, hi⟩ | ⟨h, -⟩
  · rcases haltCheck_cases (s.setFc (s.fc + 1)) with ⟨hc, ht⟩ | ⟨hc, ht⟩ <;> rw [e] at hc <;>
      simp only [transportError, hi, ht, endTick, failedTick]
    · simp [State.setFc, State.terminate, State.emit, State.setPh, State.discard, show thirdFailure s.fc = true by simp [thirdFailure]; omega]
    · simp [State.setFc, State.setPh, State.discard, hr, show thirdFailure s.fc = false by simp [thirdFailure]; omega]
  · exact absurd h h3

/-- What the outcome word of a script line decodes to, with what it says of the answers (R93). -/
theorem decode_lineOutcome {run : Bool} {r1 r2 r3 : Option Answer} {w : SelWord} {i : Instr}
    (hw : lineOutcome run r1 r2 r3 = some w) (hi : decode ⟨.outcome, w⟩ = .ok i) :
    (run = false ∧ i = .tickNop (lineBad r1 18) (lineBad r2 3) (lineBad r3 20)) ∨
    (run = true ∧ lineBad r1 18 = true ∧ i = .tickF1 (lineBad r2 3) (lineBad r3 20)) ∨
    (run = true ∧ lineGood r1 18 = true ∧ lineBad r2 3 = true ∧ i = .tickF2 (lineBad r3 20)) ∨
    (run = true ∧ lineGood r1 18 = true ∧ lineGood r2 3 = true ∧ lineBad r3 20 = true ∧ i = .tickF3) ∨
    (run = true ∧ lineGood r1 18 = true ∧ lineGood r2 3 = true ∧ lineGood r3 20 = true ∧ i = .tickOk) := by
  have word : ∀ r e1 e2 e3 : Bool, decode ⟨.outcome, outcomeWord r e1 e2 e3⟩ =
      .ok (if r then if e1 then .tickF1 e2 e3 else if e2 then .tickF2 e3 else if e3 then .tickF3 else .tickOk
        else .tickNop e1 e2 e3) := by decide
  simp only [lineOutcome, blk1Len, blk2Len, blk3Len] at hw
  cases run with
  | false =>
    simp only [Bool.false_eq_true, if_false, Option.some.injEq] at hw
    subst hw
    rw [word] at hi; cases hi
    exact .inl ⟨rfl, rfl⟩
  | true =>
    simp only [if_true] at hw
    refine .inr ?_
    rcases r1 with _ | r1
    · cases hw
    by_cases h1 : r1.bad 18 = true
    · simp only [Option.isNone_some, Bool.false_eq_true, if_false, lineBad, h1, if_true, Option.some.injEq] at hw
      subst hw
      rw [word] at hi; cases hi
      exact .inl ⟨rfl, h1, rfl⟩
    rcases r2 with _ | r2
    · simp [lineBad, h1] at hw
    by_cases h2 : r2.bad 3 = true
    · simp only [Option.isNone_some, Bool.false_eq_true, if_false, lineBad, h1, h2, if_true, Option.some.injEq] at hw
      subst hw
      rw [word] at hi; cases hi
      exact .inr (.inl ⟨rfl, by simp [lineGood, Answer.good, h1], h2, rfl⟩)
    rcases r3 with _ | r3
    · simp [lineBad, h1, h2] at hw
    simp only [Option.isNone_some, Bool.false_eq_true, if_false, lineBad, h1, h2, Option.some.injEq] at hw
    subst hw
    rw [word] at hi; cases hi
    cases h3 : r3.bad 20
    · exact .inr (.inr (.inr ⟨rfl, by simp [lineGood, Answer.good, h1], by simp [lineGood, Answer.good, h2],
        by simp [lineGood, Answer.good, h3], by simp⟩))
    · exact .inr (.inr (.inl ⟨rfl, by simp [lineGood, Answer.good, h1], by simp [lineGood, Answer.good, h2], h3, by simp⟩))

/-! ### The step of the block itself -/

/-- The ways a step can answer next when no selector word is presented. -/
inductive QuietStep (s : State) : State → Prop where
  /-- Reset. -/
  | reset : select s = .reset → QuietStep s (applyReset s)
  /-- An event without effect is taken. -/
  | taken : QuietStep s s.dropEvent
  /-- Nothing arrives and nothing is awaited. -/
  | rest : s.env = [] → QuietStep s s
  /-- The strobe issues read 1. -/
  | issue1 : s.run = true → s.ph = .idle → QuietStep s ((beginTick s).setPh .w1)
  /-- A good answer 1 fills bank 1 and issues read 2. -/
  | issue2 (ws : Vector Word 18) : s.run = true → s.ph = .w1 →
      QuietStep s ((((s.dropEvent).loadB1 ws).request2).setPh .w2)
  /-- A good answer 2 fills bank 2 and issues read 3. -/
  | issue3 (ws : Vector Word 3) : s.run = true → s.ph = .w2 →
      QuietStep s ((((s.dropEvent).loadB2 ws).request3).setPh .w3)
  /-- A good answer 3 closes the tick. -/
  | close (ws : Vector Word 20) (t : State) : s.run = true → s.ph = .w3 → succeed ((s.dropEvent).loadB3 ws) = .next t →
      QuietStep s t
  /-- A bad answer fails the tick. -/
  | fail : s.run = true → s.ph ≠ .idle → QuietStep s (transportError s.dropEvent)
  /-- A whole tick with three good answers. -/
  | lineOk (w1 : Vector Word 18) (w2 : Vector Word 3) (w3 : Vector Word 20) (t : State) : s.run = true → s.ph = .idle →
      succeed ((((((beginTick s).loadB1 w1).request2).loadB2 w2).request3).loadB3 w3) = .next t → QuietStep s t
  /-- A whole tick that fails at its first read. -/
  | lineF1 : s.run = true → s.ph = .idle → QuietStep s (transportError (beginTick s))
  /-- A whole tick that fails at its second read. -/
  | lineF2 (w1 : Vector Word 18) : s.run = true → s.ph = .idle →
      QuietStep s (transportError (((beginTick s).loadB1 w1).request2))
  /-- A whole tick that fails at its third read. -/
  | lineF3 (w1 : Vector Word 18) (w2 : Vector Word 3) : s.run = true → s.ph = .idle →
      QuietStep s (transportError (((((beginTick s).loadB1 w1).request2).loadB2 w2).request3))

/-- An answer to the read in flight: the next read, the tick closed, or the tick failed. -/
theorem quietStep_of_answer {s t : State} (hs : s.opSel = none) {r : Answer} {rest : List EnvEvent}
    (he : s.env = .answer r :: rest) (h : step s = .next t) : QuietStep s t := by
  have hc := State.clearSel_of_none hs
  simp only [step, select, hs, selectEvent, he] at h
  cases hr : s.run with
  | false => simp only [hr, Bool.not_false, if_true] at h; cases h; exact .taken
  | true =>
    simp only [hr, Bool.not_true, Bool.false_eq_true, if_false] at h
    cases hp : s.ph with
    | idle => simp [hp, selectAnswer] at h
    | w1 =>
      simp only [hp, selectAnswer, show decode (encode .rdblk2) = .ok .rdblk2 by decide, exec, execRdblk2, hc] at h
      obtain ⟨-, _, _, _, ⟨ws, _, hg⟩ | ⟨_, rfl⟩⟩ := onAnswer_next h
      · cases hg; exact .issue2 ws hr hp
      · exact .fail hr (by simp [hp])
    | w2 =>
      simp only [hp, selectAnswer, show decode (encode .rdblk3) = .ok .rdblk3 by decide, exec, execRdblk3, hc] at h
      obtain ⟨-, _, _, _, ⟨ws, _, hg⟩ | ⟨_, rfl⟩⟩ := onAnswer_next h
      · cases hg; exact .issue3 ws hr hp
      · exact .fail hr (by simp [hp])
    | w3 =>
      simp only [hp, selectAnswer, closeTick] at h
      obtain ⟨-, _, _, _, ⟨ws, _, hg⟩ | ⟨_, rfl⟩⟩ := onAnswer_next h
      · exact .close ws t hr hp hg
      · exact .fail hr (by simp [hp])

/-- A whole script line: one of the five outcomes. -/
theorem quietStep_of_line {s t : State} (hs : s.opSel = none) {r1 r2 r3 : Option Answer} {rest : List EnvEvent}
    (he : s.env = .tickLine r1 r2 r3 :: rest) (h : step s = .next t) : QuietStep s t := by
  have hc := State.clearSel_of_none hs
  simp only [step, select, hs, selectEvent, he] at h
  by_cases hx : (s.run && decide (s.ph ≠ .idle)) = true
  · simp only [hx, if_true] at h; cases h
  simp only [hx, Bool.false_eq_true, if_false] at h
  cases hw : lineOutcome s.run r1 r2 r3 with
  | none => simp [hw] at h
  | some w =>
    simp only [hw] at h
    split at h
    · rename_i i hi
      rw [hc] at h
      rcases decode_lineOutcome hw hi with ⟨hr, rfl⟩ | ⟨hr, _, rfl⟩ | ⟨hr, _, _, rfl⟩ | ⟨hr, _, _, _, rfl⟩ |
          ⟨hr, _, _, _, rfl⟩
      · simp only [exec, execTickNop, he, hr, Bool.false_eq_true, if_false] at h
        cases h; exact .taken
      · obtain ⟨_, _, _, _, _, _, hp, hf⟩ := onTickLine_next h
        split at hf
        · cases hf; exact .lineF1 hr hp
        · cases hf
      · obtain ⟨_, _, _, _, _, _, hp, hf⟩ := onTickLine_next h
        split at hf
        · split at hf
          · cases hf; exact .lineF2 _ hr hp
          · cases hf
        · cases hf
      · obtain ⟨_, _, _, _, _, _, hp, hf⟩ := onTickLine_next h
        split at hf
        · split at hf
          · cases hf; exact .lineF3 _ _ hr hp
          · cases hf
        · cases hf
      · obtain ⟨_, _, _, _, _, _, hp, hf⟩ := onTickLine_next h
        split at hf
        · exact .lineOk _ _ _ t hr hp hf
        · cases hf
    · cases h

/-- Everything a step can do when no selector word is presented and it answers next. -/
theorem quietStep_of_step {s t : State} (hs : s.opSel = none) (h : step s = .next t) : QuietStep s t := by
  rcases he : s.env with _ | ⟨e, rest⟩
  · simp only [step, select, hs, selectEvent, he] at h
    by_cases hx : (!s.run || decide (s.ph = .idle)) = true
    · simp only [hx, if_true] at h; cases h; exact .rest he
    · simp only [hx, Bool.false_eq_true, if_false] at h; cases h
  cases e with
  | reset =>
    have hr : select s = .reset := by simp [select, hs, selectEvent, he]
    simp only [step, hr] at h; cases h; exact .reset hr
  | lateAnswer r => simp only [step, select, hs, selectEvent, he] at h; cases h; exact .taken
  | tick =>
    simp only [step, select, hs, selectEvent, he] at h
    cases hr : s.run with
    | false =>
      simp only [hr, Bool.not_false, if_true, show decode ⟨.outcome, outcomeWord false false false false⟩ =
        .ok (.tickNop false false false) by decide, exec, execTickNop, State.clearSel_of_none hs, he, Bool.false_eq_true,
        if_false] at h
      cases h; exact .taken
    | true =>
      simp only [hr, Bool.not_true, Bool.false_eq_true, if_false] at h
      by_cases hp : s.ph = .idle
      · simp only [hp, if_true, show decode (encode .rdblk1) = .ok .rdblk1 by decide, exec, execRdblk1,
          State.clearSel_of_none hs, he, hr, Bool.not_true, Bool.false_eq_true, if_false] at h
        cases h; exact .issue1 hr hp
      · simp [hp] at h
  | answer r => exact quietStep_of_answer hs he h
  | tickLine r1 r2 r3 => exact quietStep_of_line hs he h

end Sys2Proof.Machine
end

