-- ==== Sys2Proof/Tests/Slice0.lean ====
section
/-! SUPPORT. Tests: the well-formedness smoke, every constructor's word written out from 30_encoding.md, small single-step tests with results from 95_test_vectors.md (V<n>), and for every statement with hypotheses a witness that meets them. -/

namespace Sys2Proof.Tests

open Sys2Proof Sys2Proof.Machine

/-! ### Helpers -/

/-- The outcome is a next state with the property. -/
def nextIs (o : Result) (p : State → Bool) : Bool :=
  match o with
  | .next t => p t
  | _ => false

/-- `words(A1(p))` of 95_test_vectors.md with the PV word `pv` and the pair `lo`, `hi`. -/
def bankA (pv lo hi : Word) : Vector Word 18 :=
  #v[pv, 520, lo, hi, 1320, 728, 9610, 0, 0, 0, 0, 0, 1318, 150, 1977, 0, 2534, 2810]
/-- `words(A1)`. -/
def bank1 : Vector Word 18 := bankA 1850 9620 0
/-- Bank 2 with the status word `st` at the default offset. -/
def bankS (st : Word) : Vector Word 3 := #v[0, st, 1]
/-- `words(A2)`. -/
def bank2 : Vector Word 3 := bankS 9
/-- `words(A3)`. -/
def bank3 : Vector Word 20 := #v[0, 0, 0, 0, 0, 0, 0, 0, 0, 0, 0, 0, 162, 0, 0, 0, 0, 0, 0, 0]
/-- `A1(p)`, `A2`, `A3` as answers of a script line. -/
def r1 (p : Word) : Option Answer := some (.ok (bankA 1850 p 0).toList)
def r2 : Option Answer := some (.ok bank2.toList)
def r3 : Option Answer := some (.ok bank3.toList)
/-- A bad answer of a script line. -/
def bad : Option Answer := some .err

/-- The idle state `(1, fc, maxp)` with a script. -/
def idle (fc : BitVec 2) (maxp : BitVec 32) (env : List EnvEvent) : State := { State.reset with fc := fc, maxp := maxp, env := env }
/-- The terminated state `(0, 3, 900)` with a script. -/
def dead (env : List EnvEvent) : State :=
  { State.reset with run := false, fc := 3, maxp := 900, env := env, trace := [req1, req1, req1, .halt] }
/-- Read 1, 2 or 3 is awaited with count `fc`; the banks are those of the phase. -/
def wait1 (fc : BitVec 2) (env : List EnvEvent) : State :=
  { State.reset with fc := fc, ph := .w1, env := env, trace := [req1] }
def wait2 (fc : BitVec 2) (env : List EnvEvent) : State :=
  { State.reset with fc := fc, ph := .w2, b1 := bank1, b1w := true, env := env, trace := [req1, req2] }
def wait3 (fc : BitVec 2) (env : List EnvEvent) : State :=
  { State.reset with
    fc := fc, ph := .w3, b1 := bank1, b1w := true, b2 := bank2, b2w := true, env := env, trace := [req1, req2, req3] }
/-- All three banks written in this tick. -/
def filled (b1 : Vector Word 18) : State :=
  { State.reset with b1 := b1, b2 := bank2, b3 := bank3, b1w := true, b2w := true, b3w := true }
/-- A snapshot of this tick with the yieldPower `yp`, and `MAXP`. -/
def snapped (yp maxp : BitVec 32) : State :=
  { State.reset with
    maxp := maxp, draft := Draft.empty.withSnapshot ⟨1320, 728, 2534, 1850, yp, 150, .boost, 0, 162, 0⟩ }
/-- The default configuration as numbers. -/
def rawDefault : RawConfig := ⟨4, 5, 16, 13, 1, 12, 13, 1⟩

/-! ### Well-formedness smoke: one ill-formed term for each check (R8, R9, R83, R91 to R93, R101) -/

theorem test_wf_default : rawDefault.wf = true := by decide
theorem test_wf_offDcv : { rawDefault with offDcv := 18 }.wf = false := by decide
theorem test_wf_offDci : { rawDefault with offDci := 18 }.wf = false := by decide
theorem test_wf_offDct : { rawDefault with offDct := 18 }.wf = false := by decide
theorem test_wf_offLdi : { rawDefault with offLdi := 18 }.wf = false := by decide
theorem test_wf_offSt : { rawDefault with offSt := 3 }.wf = false := by decide
theorem test_wf_offDyLo : { rawDefault with offDyLo := 20 }.wf = false := by decide
theorem test_wf_offDyHi : { rawDefault with offDyHi := 20 }.wf = false := by decide
theorem test_wf_exitStatus : { rawDefault with exitStatus := 0 }.wf = false := by decide
theorem test_wf_checkRefuses : { rawDefault with offSt := 3 }.check = none := by decide
theorem test_wf_defaultIsR8 : Config.default.raw = rawDefault := by decide
theorem test_wf_request : Sel.wf ⟨.request, 0x310013⟩ = false := by decide
theorem test_wf_sinkPort : Sel.wf ⟨.sinkPort, 11⟩ = false := by decide
theorem test_wf_microStep : Sel.wf ⟨.microStep, 7⟩ = false := by decide
theorem test_wf_outcome : Sel.wf ⟨.outcome, 16⟩ = false := by decide
theorem test_wf_lineNoFirst : (EnvEvent.tickLine none none none).wf true = false := by decide
theorem test_wf_lineAfterBad : (EnvEvent.tickLine bad r2 none).wf true = false := by decide
theorem test_wf_lineAfterBad2 : (EnvEvent.tickLine (r1 500) bad r3).wf true = false := by decide
theorem test_wf_lineMissing : (EnvEvent.tickLine (r1 500) none none).wf true = false := by decide
theorem test_wf_lineMissing3 : (EnvEvent.tickLine (r1 500) r2 none).wf true = false := by decide
/-- V76: with RUN = 0 no answer is asked for; P3, tick 7: answers may stand unused. -/
theorem test_wf_lineTerminated : (EnvEvent.tickLine none none none).wf false = true ∧
    (EnvEvent.tickLine (r1 500) r2 r3).wf false = true ∧ (EnvEvent.tickLine bad r2 none).wf false = false := by decide
theorem test_wf_lineGood : (EnvEvent.tickLine (r1 500) r2 bad).wf true = true := by decide

/-! ### Decoding: every constructor's word, bit by bit from R82, R83, R91, R92, R93 -/

theorem test_decode_requests :
    decode ⟨.request, 0b001100010000000000010010⟩ = .ok .rdblk1 ∧ decode ⟨.request, 0b001100100000000000000011⟩ = .ok .rdblk2 ∧
    decode ⟨.request, 0b001100110000000000010100⟩ = .ok .rdblk3 := by decide
theorem test_decode_ports :
    decode ⟨.sinkPort, 0b0000⟩ = .ok .decDcv ∧ decode ⟨.sinkPort, 0b0001⟩ = .ok .decDci ∧
    decode ⟨.sinkPort, 0b0010⟩ = .ok .decDct ∧ decode ⟨.sinkPort, 0b0011⟩ = .ok .decPvv ∧
    decode ⟨.sinkPort, 0b0100⟩ = .ok .decYp ∧ decode ⟨.sinkPort, 0b0101⟩ = .ok .decLdi ∧
    decode ⟨.sinkPort, 0b0110⟩ = .ok .decSt ∧ decode ⟨.sinkPort, 0b0111⟩ = .ok .decLds ∧
    decode ⟨.sinkPort, 0b1000⟩ = .ok .decDy ∧ decode ⟨.sinkPort, 0b1001⟩ = .ok .decErr ∧
    decode ⟨.sinkPort, 0b1010⟩ = .ok .outMaxp := by decide
theorem test_decode_microSteps :
    decode ⟨.microStep, 0b000⟩ = .ok .fcclr ∧ decode ⟨.microStep, 0b001⟩ = .ok .clamp ∧
    decode ⟨.microStep, 0b010⟩ = .ok .decode ∧ decode ⟨.microStep, 0b011⟩ = .ok .peak ∧
    decode ⟨.microStep, 0b100⟩ = .ok .pub ∧ decode ⟨.microStep, 0b101⟩ = .ok .fcinc ∧
    decode ⟨.microStep, 0b110⟩ = .ok .haltchk := by decide
/-- R94: all sixteen outcome words. -/
theorem test_decode_outcomes :
    decode ⟨.outcome, 0b1000⟩ = .ok .tickOk ∧ decode ⟨.outcome, 0b1001⟩ = .ok .tickF3 ∧
    decode ⟨.outcome, 0b1010⟩ = .ok (.tickF2 false) ∧ decode ⟨.outcome, 0b1011⟩ = .ok (.tickF2 true) ∧
    decode ⟨.outcome, 0b1100⟩ = .ok (.tickF1 false false) ∧ decode ⟨.outcome, 0b1101⟩ = .ok (.tickF1 false true) ∧
    decode ⟨.outcome, 0b1110⟩ = .ok (.tickF1 true false) ∧ decode ⟨.outcome, 0b1111⟩ = .ok (.tickF1 true true) ∧
    ∀ e1 e2 e3 : Bool, decode ⟨.outcome, (BitVec.ofBool e1 ++ BitVec.ofBool e2 ++ BitVec.ofBool e3).setWidth 24⟩ =
      .ok (.tickNop e1 e2 e3) := by decide
/-- V83, V84, V87, V89. -/
theorem test_decode_reserved :
    decode ⟨.request, 0x310013⟩ = .error (.notARequest 0x3100 19) ∧
    decode ⟨.request, 0x340001⟩ = .error (.notARequest 0x3400 1) ∧
    decode ⟨.sinkPort, 0xB⟩ = .error (.reservedPort 0xB) ∧ decode ⟨.microStep, 7⟩ = .error (.reservedMicroStep 7) ∧
    decode ⟨.outcome, 16⟩ = .error (.tooWide .outcome 16) := by decide
theorem test_decode_table :
    decodeTableWord 24 0x310012 = some .rdblk1 ∧ decodeTableWord 8 4 = some .decYp ∧
    decodeTableWord 8 0xC = some (.tickF1 false false) ∧ decodeTableWord 3 5 = some .fcinc ∧
    decodeTableWord 24 0x310013 = none := by decide

/-! ### The decoder as a function -/

/-- V1 to V5. -/
theorem test_clampWord : clampWord 0 = 1 ∧ clampWord 1 = 1 ∧ clampWord 2 = 2 ∧ clampWord 1850 = 1850 ∧
    clampWord 65535 = 65535 := by decide
/-- V12 to V17. -/
theorem test_pairMulAdd : pairMulAdd 65535 0 = 65535 ∧ pairMulAdd 0 1 = 65536 ∧ pairMulAdd 100 1 = 65636 ∧
    pairMulAdd 0 256 = 16777216 ∧ pairMulAdd 0x1234 0xABCD = 0xABCD1234 ∧ pairMulAdd 65535 65535 = 0xFFFFFFFF := by decide
/-- V22 to V30. -/
theorem test_pairShiftOr : pairShiftOr 162 0 = 162 ∧ pairShiftOr 50 2 = 562 ∧ pairShiftOr 0 1 = 256 ∧
    pairShiftOr 0x0100 1 = 256 ∧ pairShiftOr 0xFF00 0xFF = 65280 ∧ pairShiftOr 0xFF 0xFF00 = 0xFF00FF ∧
    pairShiftOr 0x1234 0xABCD = 0xABDF34 ∧ pairShiftOr 0xFFFF 0xFFFF = 0xFFFFFF ∧ pairShiftOr 0xFFFF 0 = 65535 := by decide
/-- V31 to V45. -/
theorem test_statusState :
    [0, 4, 8, 12, 2, 6, 10, 14, 9, 1, 16, 0xFFF1, 0xFFFD, 0xFFFF, 3].map (fun st => (statusState st).code) =
      [0, 1, 2, 3, 4, 4, 4, 4, 2, 0, 0, 0, 3, 4, 4] := by decide
/-- V20. -/
theorem test_decode_V20 : decodeBanks Config.default bank1 bank2 bank3 =
    ⟨1320, 728, 2534, 1850, 9620, 150, .boost, 0, 162, 0⟩ := by decide
/-- V48. -/
theorem test_decode_V48 : decodeBanks Config.default (Vector.replicate 18 0xFFFF) (Vector.replicate 3 0xFFFF)
    (Vector.replicate 20 0xFFFF) = ⟨65535, 65535, 65535, 65535, 4294967295, 65535, .fault, 0, 16777215, 0⟩ := by decide
/-- V49. -/
theorem test_decode_V49 : decodeBanks Config.default (Vector.replicate 18 0) (Vector.replicate 3 0) (Vector.replicate 20 0) =
    ⟨0, 0, 0, 1, 0, 0, .off, 0, 0, 0⟩ := by decide
/-- The aliasing corner of 95_test_vectors.md section 2.2 (D32). -/
theorem test_decode_alias : (decodeBanks { Config.default with offDcv := 0 } (bankA 0 0 0) bank2 bank3).dcVoltage = 1 := by
  decide
/-- V50 to V57. -/
theorem test_bad : Answer.err.bad 18 = true ∧ (Answer.ok bank1.toList).bad 18 = false ∧
    (Answer.ok (List.replicate 17 0)).bad 18 = true ∧ (Answer.ok (List.replicate 19 0)).bad 18 = true ∧
    (Answer.ok []).bad 3 = true ∧ (Answer.ok [0, 9]).bad 3 = true ∧ (Answer.ok [0, 9, 1]).bad 3 = false ∧
    (Answer.ok bank3.toList).bad 20 = false := by decide
/-- R123: a short and a long block. -/
theorem test_decodeBlocks :
    decodeBlocks Config.default (bank1.toList.take 17) bank2.toList bank3.toList = .error .preconditionViolation ∧
    decodeBlocks Config.default bank1.toList (0 :: bank2.toList) bank3.toList = .error .preconditionViolation ∧
    decodeBlocks Config.default bank1.toList bank2.toList bank3.toList =
      .ok ⟨1320, 728, 2534, 1850, 9620, 150, .boost, 0, 162, 0⟩ := by decide

/-- The eleven values of V71's PUB as numbers, in port order, and which of them are scaled (R35). -/
theorem test_ports :
    (List.range 12).map (fun p => ((Bundle.mk ⟨1320, 728, 2534, 1850, 9620, 150, .boost, 0, 162, 0⟩ 9620).port p).map
      PortValue.number) =
      [some 1320, some 728, some 2534, some 1850, some 9620, some 150, some 2, some 0, some 162, some 0, some 9620, none] ∧
    (Bundle.mk ⟨1320, 728, 2534, 1850, 9620, 150, .boost, 0, 162, 0⟩ 9620).port 8 = some (.scaled 162 100) := by decide

/-! ### One step of each instruction -/

/-- R141, example. -/
theorem test_rdblk1 : nextIs (exec .rdblk1 (idle 0 0 [.tick])) (fun t => t.ph == .w1 && t.trace == [.req 0x3100 18]) := by
  decide
/-- R142, example. -/
theorem test_rdblk2_bad : nextIs (exec .rdblk2 (wait1 0 [.answer .err]))
    (fun t => t.fc == 1 && t.ph == .idle && t.trace == [req1]) := by decide
theorem test_rdblk2_good : nextIs (exec .rdblk2 (wait1 2 [.answer (.ok bank1.toList)]))
    (fun t => t.fc == 2 && t.ph == .w2 && t.b1[2] == 9620 && t.trace == [req1, .req 0x3200 3]) := by decide
/-- R143, example: two words, one short. -/
theorem test_rdblk3_short : nextIs (exec .rdblk3 (wait2 0 [.answer (.ok [0, 9])])) (fun t => t.fc == 1 && t.ph == .idle) := by
  decide
theorem test_rdblk3_good : nextIs (exec .rdblk3 (wait2 0 [.answer (.ok [0, 9, 1])]))
    (fun t => t.ph == .w3 && t.b2[1] == 9 && t.trace == [req1, req2, .req 0x3300 20]) := by decide
/-- R144, example. -/
theorem test_close_bad : nextIs (step (wait3 2 [.answer .err]))
    (fun t => t.fc == 3 && !t.run && t.trace == [req1, req2, req3, .halt]) := by decide
theorem test_close_good : nextIs (step (wait3 2 [.answer (.ok bank3.toList)]))
    (fun t => t.fc == 0 && t.maxp == 9620 && t.ph == .idle && t.snkHeld) := by decide
theorem test_decDcv : nextIs (exec .decDcv (filled bank1)) (fun t => t.draft.dcVoltage.isSome) := by decide
theorem test_decDci : nextIs (exec .decDci (filled bank1)) (fun t => t.draft.dcCurrent.isSome) := by decide
theorem test_decDct : nextIs (exec .decDct (filled bank1)) (fun t => t.draft.dcTemperature.isSome) := by decide
/-- V1. -/
theorem test_decPvv_zero : nextIs (exec .decPvv (filled (bankA 0 0 0))) (fun t => t.draft.pvVoltage == some 1) := by decide
/-- V4. -/
theorem test_decPvv : nextIs (exec .decPvv (filled bank1)) (fun t => t.draft.pvVoltage == some 1850) := by decide
/-- V14 (S3). -/
theorem test_decYp : nextIs (exec .decYp (filled (bankA 0 100 1))) (fun t => t.draft.yieldPower == some 65636) := by decide
theorem test_decLdi : nextIs (exec .decLdi (filled bank1)) (fun t => t.draft.loadCurrent.isSome) := by decide
theorem test_decSt : nextIs (exec .decSt (filled bank1)) (fun t => t.draft.operatingState.isSome) := by decide
/-- V46. -/
theorem test_decLds : nextIs (exec .decLds State.reset) (fun t => t.draft.loadState == some 0) := by decide
theorem test_decDy : nextIs (exec .decDy (filled bank1)) (fun t => t.draft.dailyYield.isSome) := by decide
/-- V47. -/
theorem test_decErr : nextIs (exec .decErr { filled bank1 with b2 := bankS 2 }) (fun t => t.draft.errorCode == some 0) := by decide
/-- R111, example. -/
theorem test_clamp : nextIs (exec .clamp (filled (bankA 0 0 0))) (fun t => t.b1[0] == 1 && t.b1[1] == 520) := by decide
theorem test_decode : nextIs (exec .decode (filled bank1))
    (fun t => t.draft.yieldPower == some 9620 && t.draft.pvVoltage == some 1850 && t.maxp == 0) := by decide
/-- V66. -/
theorem test_outMaxp : nextIs (exec .outMaxp (snapped 200 700)) (fun t => t.draft.maxPowerToday == some 700) := by decide
/-- V63. -/
theorem test_fcclr : nextIs (exec .fcclr (idle 2 0 [])) (fun t => t.fc == 0 && t.run) := by decide
/-- V66 to V69. -/
theorem test_peak_keeps : nextIs (exec .peak (snapped 200 700)) (fun t => t.maxp == 700) ∧
    nextIs (exec .peak (snapped 700 700)) (fun t => t.maxp == 700) ∧
    nextIs (exec .peak (snapped 0 4294967295)) (fun t => t.maxp == 4294967295) := by decide
/-- V65, V70. -/
theorem test_peak_raises : nextIs (exec .peak (snapped 1 0)) (fun t => t.maxp == 1) ∧
    nextIs (exec .peak (snapped 65536 65535)) (fun t => t.maxp == 65536) := by decide
/-- R155, example: port 4 carries 200, port 10 carries 700. -/
theorem test_pub : nextIs (exec .pub (snapped 200 700))
    (fun t => t.sinkPort 4 == some (.scaled 200 100) && t.sinkPort 10 == some (.scaled 700 100) &&
      (t.sinkPort 6).map PortValue.number == some 2 && t.sinkPort 11 == none && t.trace.length == 1) := by decide
/-- V59; and from 3 the instruction runs. -/
theorem test_fcinc : nextIs (exec .fcinc (idle 1 0 [])) (fun t => t.fc == 2) ∧
    nextIs (exec .fcinc (idle 3 0 [])) (fun t => t.freeIdx == 1 && t.run) := by decide
/-- V58, V60, the second half. -/
theorem test_haltchk : nextIs (exec .haltchk (idle 1 0 [])) (fun t => t.run && t.trace == []) ∧
    nextIs (exec .haltchk (idle 3 0 [])) (fun t => !t.run && t.haltOut && t.trace == [.halt]) := by decide
/-- V72. -/
theorem test_tickOk : nextIs (step (idle 2 700 [.tickLine (r1 900) r2 r3]))
    (fun t => t.run && t.fc == 0 && t.maxp == 900 && t.trace.take 3 == [req1, req2, req3] && t.trace.length == 4) := by decide
/-- R155, example, through a whole tick. -/
theorem test_tickOk_below : nextIs (step (idle 0 700 [.tickLine (r1 200) r2 r3]))
    (fun t => t.sinkPort 4 == some (.scaled 200 100) && t.sinkPort 10 == some (.scaled 700 100)) := by decide
/-- V73. -/
theorem test_tickF1 : nextIs (step (idle 0 0 [.tickLine bad none none]))
    (fun t => t.run && t.fc == 1 && t.maxp == 0 && t.trace == [req1]) := by decide
/-- V78. -/
theorem test_tickF1_halts : nextIs (step (idle 2 0 [.tickLine (some (.ok (List.replicate 17 0))) none none]))
    (fun t => !t.run && t.fc == 3 && t.trace == [req1, .halt]) := by decide
/-- V74. -/
theorem test_tickF2 : nextIs (step (idle 1 500 [.tickLine (r1 9620) bad none]))
    (fun t => t.run && t.fc == 2 && t.maxp == 500 && t.trace == [req1, req2]) := by decide
/-- V75. -/
theorem test_tickF3_halts : nextIs (step (idle 2 500 [.tickLine (r1 9620) r2 bad]))
    (fun t => !t.run && t.fc == 3 && t.maxp == 500 && t.trace == [req1, req2, req3, .halt]) := by decide
/-- V79: MAXP stays 0 although bank 1 held 50000. -/
theorem test_tickF3_torn : nextIs (step (idle 1 0 [.tickLine (r1 50000) r2 bad]))
    (fun t => t.run && t.fc == 2 && t.maxp == 0 && !t.snkHeld) := by decide
/-- V76. -/
theorem test_tickNop : nextIs (step (dead [.tickLine none none none]))
    (fun t => !t.run && t.fc == 3 && t.maxp == 900 && t.trace.length == 4) := by decide
/-- V91. -/
theorem test_reset : step { idle 2 4294967295 [.reset] with snkHeld := true } = .next State.reset := rfl

/-- Every placed table word runs as the first instruction after reset. -/
theorem test_placedWords :
    ((List.range 16).map (fun w => (8, w)) ++ (List.range 7).map (fun w => (3, w)) ++
      [(24, 0x310012), (24, 0x320003), (24, 0x330014)]).all
      (fun p => nextIs (step (State.reset.withFetchWord p.1 p.2)) (fun _ => true)) = true := by decide

/-! ### Witnesses: concrete states and operands that meet the hypotheses of the statements -/

/-- ResetEventRestoresReset: in the middle of a tick. -/
theorem witness_ResetEventRestoresReset : (wait2 1 [.reset, .tick]).opSel = none ∧
    (wait2 1 [.reset, .tick]).env = .reset :: [.tick] := by decide
/-- ConfigCheckMatchesRanges, at both ends of every range. -/
theorem witness_ConfigCheckMatchesRanges : (RawConfig.mk 17 17 17 17 2 19 19 1).check.isSome = true ∧
    (RawConfig.mk 0 0 0 0 0 0 0 1).check.isSome = true := by decide
/-- StatusTable, last clause: words that agree in bits 3:1 only. -/
theorem witness_StatusTable : (0x0009#16).extractLsb' 1 3 = (0xFFF8#16).extractLsb' 1 3 ∧
    (0x0000#16).getLsbD 1 = false ∧ (0x000C#16).getLsbD 3 = true ∧ (0x0002#16).getLsbD 1 = true := by decide
/-- DecoderReadsOnlyItsWords: banks that differ in words 1 and 17 of bank 1 only. -/
theorem witness_DecoderReadsOnlyItsWords :
    (∀ k : Fin 18, k.val = 0 ∨ k.val = 2 ∨ k.val = 3 ∨ k = Config.default.offDcv ∨ k = Config.default.offDci ∨
      k = Config.default.offDct ∨ k = Config.default.offLdi → bank1[k] = ((bank1.set 1 7).set 17 7)[k]) ∧
    bank1 ≠ (bank1.set 1 7).set 17 7 := by decide
/-- DecodeIsPure: same banks, other state different. -/
theorem witness_DecodeIsPure : (filled bank1).b1w = true ∧ (filled bank1).b2w = true ∧ (filled bank1).b3w = true ∧
    (filled bank1).b1 = { filled bank1 with fc := 2, maxp := 700, run := false }.b1 ∧
    filled bank1 ≠ { filled bank1 with fc := 2, maxp := 700, run := false } := by decide
/-- DecodeIsClampThenFieldsInAnyOrder: a permutation that is not the order of R110; the marks are those above. -/
theorem witness_DecodeIsClampThenFieldsInAnyOrder : fieldOps.reverse.Perm fieldOps ∧ fieldOps.reverse ≠ fieldOps :=
  ⟨List.reverse_perm _, by decide⟩
/-- ClampFloorsWordZero: both cases of word 0, and a configuration whose scalar offsets are 0. -/
theorem witness_ClampFloorsWordZero : (filled (bankA 0 0 0)).b1w = true ∧ (filled (bankA 0 0 0)).b1[0] = 0 ∧
    (filled (bankA 1 0 0)).b1[0] ≠ 0 ∧
    (let c : Config := { Config.default with offDcv := 0, offDci := 0, offDct := 0, offLdi := 0 }
     c.offDcv.val = 0 ∧ c.offDci.val = 0 ∧ c.offDct.val = 0 ∧ c.offLdi.val = 0) := by decide
/-- ScalarChannelsCopyTheirWord, PvVoltageIsNeverZero, YieldPowerIsMultiplyAdd, OperatingStateFaultFirst,
DailyYieldIsShiftOr: extreme banks, written in this tick. -/
theorem witness_fieldOperations : (filled (Vector.replicate 18 0xFFFF)).b1w = true ∧
    (filled (Vector.replicate 18 0xFFFF)).b2w = true ∧ (filled (Vector.replicate 18 0xFFFF)).b3w = true := by decide
/-- MissingOperandsAreRefused: the reset state, every clause. -/
theorem witness_MissingOperandsAreRefused : State.reset.b1w = false ∧ State.reset.b2w = false ∧ State.reset.b3w = false ∧
    State.reset.draft.yieldPower = none ∧ State.reset.draft.snapshot = none ∧
    Instr.decode ∈ [Instr.clamp, .decDcv, .decDci, .decDct, .decPvv, .decYp, .decLdi, .decode] ∧
    Instr.decSt ∈ [Instr.decSt, .decode] ∧ Instr.decDy ∈ [Instr.decDy, .decode] := by decide
/-- FailureCounterOperations and HaltchkAtThreshold: `FC` 0 and 2 below the threshold, 3 at it. -/
theorem witness_FailureCounterOperations : (idle 0 0 []).fc.toNat < 3 ∧ (idle 2 0 []).fc.toNat < 3 ∧ (idle 3 0 []).fc = 3 ∧
    3 ≤ (idle 3 0 []).fc.toNat := by decide
/-- PeakIsStrictMaximum: one above, equal, and below at the top of the range; an operation that answers next. -/
theorem witness_PeakIsStrictMaximum :
    exec .fcclr (idle 2 7 []) = .next (idle 0 7 []) ∧
    ((snapped 701 700).draft.yieldPower = some 701 ∧ (snapped 701 700).maxp.toNat < (701#32).toNat) ∧
    ((snapped 700 700).draft.yieldPower = some 700 ∧ (700#32).toNat ≤ (snapped 700 700).maxp.toNat) ∧
    (snapped 0 4294967295).draft.yieldPower = some 0 ∧ (0#32).toNat ≤ (snapped 0 4294967295).maxp.toNat :=
  ⟨rfl, by decide⟩
/-- PubPublishesBundle and OutMaxpShowsPeak; the ports at both ends of the range that does not exist. -/
theorem witness_PubPublishesBundle : (snapped 200 700).draft.snapshot =
    some ⟨1320, 728, 2534, 1850, 200, 150, .boost, 0, 162, 0⟩ ∧ 11 ≤ 11 ∧ 11 ≤ 15 := by decide
/-- ScaledOrderIsNumeratorOrder: a scaled port and one that is not. -/
theorem witness_ScaledOrderIsNumeratorOrder : Bundle.zero.port 10 = some (.scaled 0 100) ∧
    Bundle.zero.port 7 = some (.plain 0) := by decide
/-- Rdblk1IssuesReadOne. -/
theorem witness_Rdblk1IssuesReadOne : (idle 2 0 [.tick]).run = true ∧ (idle 2 0 [.tick]).ph = .idle ∧
    (idle 2 0 [.tick]).env = .tick :: [] := by decide
/-- GoodAnswersIssueTheNextRead. -/
theorem witness_GoodAnswersIssueTheNextRead :
    ((wait1 0 [.answer (.ok bank1.toList)]).ph = .w1 ∧
      (wait1 0 [.answer (.ok bank1.toList)]).env = .answer (.ok bank1.toList) :: []) ∧
    ((wait2 0 [.answer (.ok bank2.toList)]).ph = .w2 ∧
      (wait2 0 [.answer (.ok bank2.toList)]).env = .answer (.ok bank2.toList) :: []) := by decide
/-- BadAnswersFailTheTick and TransportErrorEntry: an error, one word short and one word long, with counts 0 and 2. -/
theorem witness_BadAnswersFailTheTick :
    ((wait1 0 [.answer .err]).run = true ∧ (wait1 0 [.answer .err]).fc.toNat < 3 ∧ (wait1 0 [.answer .err]).ph = .w1 ∧
      Answer.err.bad 18 = true) ∧
    ((wait2 2 [.answer (.ok [0, 9])]).run = true ∧ (wait2 2 [.answer (.ok [0, 9])]).fc.toNat < 3 ∧
      (wait2 2 [.answer (.ok [0, 9])]).ph = .w2 ∧ (Answer.ok [0, 9]).bad 3 = true) ∧
    ((wait3 2 [.answer (.ok (List.replicate 21 0))]).run = true ∧ (wait3 2 []).fc.toNat < 3 ∧ (wait3 2 []).ph = .w3 ∧
      (wait3 2 []).opSel = none ∧ (Answer.ok (List.replicate 21 0)).bad 20 = true) := by decide
/-- ThirdAnswerClosesTheTick, first clause. -/
theorem witness_ThirdAnswerClosesTheTick : ∃ (s : State) (p : Snapshot) (m : BitVec 32), s.opSel = none ∧ s.run = true ∧
    s.ph = .w3 ∧ s.b1w = true ∧ s.b2w = true ∧ s.env = .answer (.ok bank3.toList) :: [] ∧
    p = decodeBanks Config.active s.b1 s.b2 bank3 ∧ m = (if s.maxp.toNat < p.yieldPower.toNat then p.yieldPower else s.maxp) :=
  ⟨wait3 2 [.answer (.ok bank3.toList)], _, _, rfl, rfl, rfl, rfl, rfl, rfl, rfl, rfl⟩
/-- TickOkSucceeds. -/
theorem witness_TickOkSucceeds : ∃ (s : State) (p : Snapshot) (m : BitVec 32), s.run = true ∧ s.ph = .idle ∧
    s.env = .tickLine (some (.ok bank1.toList)) (some (.ok bank2.toList)) (some (.ok bank3.toList)) :: [] ∧
    p = decodeBanks Config.active bank1 bank2 bank3 ∧
    m = (if s.maxp.toNat < p.yieldPower.toNat then p.yieldPower else s.maxp) :=
  ⟨idle 2 700 [.tickLine (some (.ok bank1.toList)) r2 r3], _, _, rfl, rfl, rfl, rfl, rfl⟩
/-- TickFailsAtFirstOrSecondRead. -/
theorem witness_TickFailsAtFirstOrSecondRead :
    ((idle 2 0 [.tickLine bad none none]).run = true ∧ (idle 2 0 [.tickLine bad none none]).fc.toNat < 3 ∧
      (idle 2 0 [.tickLine bad none none]).ph = .idle ∧ Answer.err.bad 18 = true ∧
      (idle 2 0 [.tickLine bad none none]).env = .tickLine (some .err) none none :: []) ∧
    ((idle 0 0 [.tickLine (some (.ok bank1.toList)) (some (.ok [0, 9])) none]).env =
        .tickLine (some (.ok bank1.toList)) (some (.ok [0, 9])) none :: [] ∧ (Answer.ok [0, 9]).bad 3 = true) := by decide
/-- TornReadPublishesNothing: bank 1 holds a new peak. -/
theorem witness_TornReadPublishesNothing :
    (idle 1 0 [.tickLine (r1 50000) r2 bad]).run = true ∧ (idle 1 0 [.tickLine (r1 50000) r2 bad]).fc.toNat < 3 ∧
    (idle 1 0 [.tickLine (r1 50000) r2 bad]).ph = .idle ∧ Answer.err.bad 20 = true ∧
    (idle 1 0 [.tickLine (r1 50000) r2 bad]).env =
      .tickLine (some (.ok (bankA 1850 50000 0).toList)) (some (.ok bank2.toList)) (some .err) :: [] := by decide
/-- TickNopDoesNothing: the strobe alone and a whole line. -/
theorem witness_TickNopDoesNothing : (dead [.tick]).run = false ∧ (dead [.tick]).env = .tick :: [] ∧
    (dead [.tickLine (r1 5) r2 r3]).run = false ∧ (dead [.tickLine (r1 5) r2 r3]).env = .tickLine (r1 5) r2 r3 :: [] := by decide
/-- OutcomesAgainstTheirWordAreRefused: running and terminated, a good line and lines bad at each read. -/
theorem witness_OutcomesAgainstTheirWordAreRefused :
    ((idle 0 0 [.tickLine (r1 5) r2 r3]).run = true ∧ (idle 0 0 [.tickLine (r1 5) r2 r3]).ph = .idle) ∧
    (dead [.tickLine (r1 5) r2 r3]).run = false ∧ lineBad (r1 5) 18 = false ∧ lineBad r2 3 = false ∧ lineBad r3 20 = false ∧
    lineSucceeds bad none none = false ∧ lineGood bad 18 = false ∧ lineGood bad 3 = false := by decide
/-- StepRunsDecodedInstruction: an event that selects a word, and a presented reserved word. -/
theorem witness_StepRunsDecodedInstruction :
    (select (idle 0 0 [.tick]) = .op ⟨.request, 0x310012⟩ ∧ decode ⟨.request, 0x310012⟩ = .ok .rdblk1) ∧
    (select { State.reset with opSel := some ⟨.sinkPort, 15⟩ } = .op ⟨.sinkPort, 15⟩ ∧
      decode ⟨.sinkPort, 15⟩ = .error (.reservedPort 15)) := by decide
/-- EventsSelectTheirOperation: one state for each clause. -/
theorem witness_EventsSelectTheirOperation :
    (idle 0 0 [.tick]).opSel = none ∧ (idle 0 0 [.tick]).run = true ∧ (idle 0 0 [.tick]).ph = .idle ∧
    (dead [.tick]).run = false ∧ (dead [.tick]).opSel = none ∧
    (wait1 0 [.answer .err]).ph = .w1 ∧ (wait1 0 [.answer .err]).run = true ∧ (wait1 0 [.answer .err]).opSel = none ∧
    (wait2 0 [.answer .err]).ph = .w2 ∧ (wait2 0 [.answer .err]).run = true ∧ (wait2 0 [.answer .err]).opSel = none ∧
    lineSucceeds (r1 5) r2 r3 = true ∧ lineBad bad 18 = true ∧ (lineGood (r1 5) 18 = true ∧ lineBad bad 3 = true) ∧
    (lineGood (r1 5) 18 = true ∧ lineGood r2 3 = true ∧ lineBad bad 20 = true) := by decide
/-- MeaninglessSituationsStop: one state for each clause. -/
theorem witness_MeaninglessSituationsStop :
    ((wait3 0 [.tick]).opSel = none ∧ (wait3 0 [.tick]).run = true ∧ (wait3 0 [.tick]).ph ≠ .idle) ∧
    (wait1 0 [.tickLine bad none none]).ph ≠ .idle ∧ (idle 0 0 [.answer .err]).ph = .idle ∧
    (idle 0 0 [.answer .err]).run = true ∧ (wait2 0 []).env = [] ∧ (wait2 0 []).ph ≠ .idle := by decide
/-- LateAnswersAndSilenceChangeNothing. -/
theorem witness_LateAnswersAndSilenceChangeNothing : (wait1 0 [.lateAnswer .err]).opSel = none ∧
    (wait1 0 [.lateAnswer .err]).env = .lateAnswer .err :: [] ∧ State.reset.opSel = none ∧ State.reset.env = [] ∧
    State.reset.ph = .idle := by decide
/-- TerminatedIgnoresEverything. -/
theorem witness_TerminatedIgnoresEverything : (dead [.answer .err]).opSel = none ∧ (dead [.answer .err]).run = false ∧
    ∀ rest, (dead [.answer .err]).env ≠ .reset :: rest := ⟨by decide, by decide, by intro rest h; cases h⟩
/-- PlacedWordRunsNext: a word of each format of the host's words. -/
theorem witness_PlacedWordRunsNext : decodeTableWord 24 0x330014 = some .rdblk3 ∧ decodeTableWord 8 0xA = some .outMaxp ∧
    decodeTableWord 8 0xF = some (.tickF1 true true) ∧ decodeTableWord 3 6 = some .haltchk := by decide

/-- The reset state with a tick to come meets the control invariants (EveryStepKeepsControlInv). -/
theorem controlInv_idle : ControlInv (idle 0 0 [.tick]) := by constructor <;> decide
/-- So does the state in which read 1 is awaited. -/
theorem controlInv_wait1 : ControlInv (wait1 0 [.answer .err]) := by constructor <;> decide
/-- And the terminated state. -/
theorem controlInv_dead : ControlInv (dead []) := by constructor <;> decide
/-- EveryStepKeepsControlInv: a failed read. -/
theorem witness_EveryStepKeepsControlInv : ControlInv (wait1 0 [.answer .err]) ∧
    step (wait1 0 [.answer .err]) = .next { wait1 1 [] with ph := .idle } := ⟨controlInv_wait1, rfl⟩
/-- MaxpIsLargestPublishedPower: a state with a published peak, and the last failure that terminates. -/
theorem witness_MaxpIsLargestPublishedPower : ∃ s t : State, s.opSel = none ∧ PeakInv s ∧ step s = .next t ∧ s.maxp = 300 := by
  refine ⟨{ idle 0 300 [.lateAnswer .err] with
    trace := [.pub ⟨⟨0, 0, 0, 1, 300, 0, .off, 0, 0, 0⟩, 300⟩] }, _, rfl, ?_, rfl, rfl⟩
  exact ⟨by intro b hb; simp_all [idle, pubsOf], .inr ⟨_, List.mem_singleton.2 rfl, rfl⟩⟩
/-- SinkHoldsLastBundle: the sink holds what was published; the step is a failed tick. -/
theorem witness_SinkHoldsLastBundle : ∃ s t : State, SinkInv s ∧ step s = .next t ∧ s.snkHeld = true := by
  refine ⟨{ idle 0 300 [.tickLine bad none none] with
    trace := [.pub ⟨⟨0, 0, 0, 1, 300, 0, .off, 0, 0, 0⟩, 300⟩], snk := ⟨⟨0, 0, 0, 1, 300, 0, .off, 0, 0, 0⟩, 300⟩
    snkHeld := true }, _, rfl, rfl, rfl⟩
/-- EveryStepKeepsTraceOrder: read 1 is awaited and its request is the last event. -/
theorem witness_EveryStepKeepsTraceOrder : ControlInv (wait1 0 [.answer .err]) ∧ OrderInv (wait1 0 [.answer .err]) ∧
    ∃ t, step (wait1 0 [.answer .err]) = .next t :=
  ⟨controlInv_wait1, by constructor <;> decide, _, rfl⟩
/-- OnlyResetRevivesOrLowersPeak, OnlyTheThreeWindowsAreRead, EveryPublishIsSane and NothingWritesYieldToday: a step that
is no reset and one that is. -/
theorem witness_stepsOfEveryState : (∃ t, step (dead [.tick]) = .next t) ∧ select (dead [.tick]) ≠ .reset ∧
    (∃ t, step (dead [.reset]) = .next t) ∧ select (dead [.reset]) = .reset ∧ (dead [.tick]).opSel = none ∧
    (∃ t, exec .haltchk State.reset = .next t) ∧
    Instr.haltchk ∉ [Instr.rdblk2, .clamp, .decode, .tickOk, .tickF3] :=
  ⟨⟨_, rfl⟩, by decide, ⟨_, rfl⟩, by decide, by decide, ⟨_, rfl⟩, by decide⟩
/-- PublishIffFullSuccess: a good line, and one bad at its third read. -/
theorem witness_PublishIffFullSuccess : (∃ t, step (idle 0 0 [.tickLine (r1 300) r2 r3]) = .next t) ∧
    lineSucceeds (r1 300) r2 r3 = true ∧ (∃ t, step (idle 0 0 [.tickLine (r1 300) r2 bad]) = .next t) ∧
    lineSucceeds (r1 300) r2 bad = false := ⟨⟨_, rfl⟩, by decide, ⟨_, rfl⟩, by decide⟩
/-- CompleteLinesAlwaysStep: a good line, a bad one, and a terminated block. -/
theorem witness_CompleteLinesAlwaysStep : (idle 2 0 [.tickLine (r1 300) r2 r3]).opSel = none ∧
    (idle 2 0 [.tickLine (r1 300) r2 r3]).ph = .idle ∧ lineSucceeds (r1 300) r2 r3 = true ∧
    lineFails (r1 300) bad none = true ∧ (dead [.tickLine none none none]).run = false ∧
    EnvEvent.wf true (.tickLine (r1 300) r2 r3) = true ∧ EnvEvent.wf true (.tickLine bad none none) = true ∧
    lineBad bad 18 = true ∧ EnvEvent.wf true (.tickLine (r1 300) bad none) = true ∧ lineBad bad 3 = true ∧
    EnvEvent.wf false (.tickLine none none none) = true := by decide
/-- AwaitedAnswersAlwaysStep. -/
theorem witness_AwaitedAnswersAlwaysStep : ControlInv (wait1 0 [.answer .err]) ∧
    (wait1 0 [.answer .err]).env = .answer .err :: [] ∧ (wait1 0 [.answer .err]).ph ≠ .idle :=
  ⟨controlInv_wait1, by decide, by decide⟩
/-- SmallStepsAgreeWithMacroStep: a whole good line. -/
theorem witness_SmallStepsAgreeWithMacroStep : (idle 2 0 [.tickLine (r1 300) r2 r3]).opSel = none ∧
    (idle 2 0 [.tickLine (r1 300) r2 r3]).ph = .idle ∧ ∃ t, step (idle 2 0 [.tickLine (r1 300) r2 r3]) = .next t :=
  ⟨by decide, by decide, _, rfl⟩
/-- ThreeConsecutiveFailuresTerminate, first two clauses: failures at three different reads. -/
theorem witness_ThreeConsecutiveFailuresTerminate :
    let s := idle 0 0 [.tickLine bad none none, .tickLine (r1 5) bad none, .tickLine (r1 5) r2 bad]
    ControlInv s ∧ s.run = true ∧ s.fc = 0 ∧ s.ph = .idle ∧
    s.env = .tickLine bad none none :: .tickLine (r1 5) bad none :: .tickLine (r1 5) r2 bad :: [] ∧
    lineFails bad none none = true ∧ lineFails (r1 5) bad none = true ∧ lineFails (r1 5) r2 bad = true :=
  ⟨by constructor <;> decide, by decide, by decide, by decide, by decide, by decide, by decide, by decide⟩
/-- Its third clause: fail, fail, success, fail, fail, on one state that carries the five lines. -/
theorem witness_failFailSuccessFailFail :
    let s := idle 0 0 [.tickLine bad none none, .tickLine (r1 5) bad none, .tickLine (r1 5) r2 r3,
      .tickLine (r1 5) r2 bad, .tickLine bad none none]
    ControlInv s ∧ s.fc = 0 ∧ s.ph = .idle ∧
    s.env = .tickLine bad none none :: .tickLine (r1 5) bad none :: .tickLine (r1 5) r2 r3 ::
      .tickLine (r1 5) r2 bad :: .tickLine bad none none :: [] ∧
    lineFails bad none none = true ∧ lineFails (r1 5) bad none = true ∧ lineSucceeds (r1 5) r2 r3 = true ∧
    lineFails (r1 5) r2 bad = true :=
  ⟨by constructor <;> decide, by decide, by decide, by decide, by decide, by decide, by decide, by decide⟩

end Sys2Proof.Tests
end

section
/-! Format PM of 30_encoding.md: what the multiply-add pair is as a number and as a bit string. -/

namespace Sys2Proof

/-- R87: the largest sum, `65535 * 65536 + 65535`, is below `2 ^ 32`, so the 32-bit operations never wrap. -/
theorem pairMulAdd_toNat (lo hi : Word) : (pairMulAdd lo hi).toNat = hi.toNat * 65536 + lo.toNat := by
  have hlo : lo.toNat < 65536 := lo.isLt
  have hhi : hi.toNat < 65536 := hi.isLt
  simp only [pairMulAdd, BitVec.toNat_add, BitVec.toNat_mul, BitVec.toNat_ofNat,
    BitVec.toNat_setWidth_of_le (show 16 ≤ 32 by decide)]
  omega

/-- R87: `lo` is below 65536, so adding it to the shifted `hi` carries nothing and is the same as placing it below `hi`. -/
theorem pairMulAdd_eq_append (lo hi : Word) : pairMulAdd lo hi = hi ++ lo := by
  apply BitVec.eq_of_toNat_eq
  calc (pairMulAdd lo hi).toNat
      = hi.toNat * 2 ^ 16 + lo.toNat := pairMulAdd_toNat lo hi
    _ = hi.toNat <<< 16 + lo.toNat := by rw [Nat.shiftLeft_eq]
    _ = hi.toNat <<< 16 ||| lo.toNat := Nat.shiftLeft_add_eq_or_of_lt lo.isLt hi.toNat
    _ = (hi ++ lo).toNat := (BitVec.toNat_append hi lo).symm

/-- The upper half of the bit table of R87. -/
theorem pairMulAdd_extract_hi (lo hi : Word) : (pairMulAdd lo hi).extractLsb' 16 16 = hi := by
  rw [pairMulAdd_eq_append]
  exact BitVec.extractLsb'_append_eq_left

/-- The lower half of the bit table of R87. -/
theorem pairMulAdd_extract_lo (lo hi : Word) : (pairMulAdd lo hi).extractLsb' 0 16 = lo := by
  rw [pairMulAdd_eq_append]
  exact BitVec.extractLsb'_append_eq_right

/-- Settles O7: the exact sum from the absence of a wrap, the concatenation from the absence of a carry, and the two
halves from the concatenation. -/
theorem multiplyAddIsConcatenation : Obligations.MultiplyAddIsConcatenation := fun lo hi =>
  ⟨pairMulAdd_toNat lo hi, pairMulAdd_eq_append lo hi, pairMulAdd_extract_hi lo hi, pairMulAdd_extract_lo lo hi⟩

end Sys2Proof
end

section
/-! The operations of 40_decode_ops.md on written banks: the clamp word by word (R111), and one equation per operation
(R110 to R121). A stop for an unwritten bank is no part of these (R23). -/

namespace Sys2Proof

/-! ### The clamp (R111) -/

@[simp] theorem clampWord_zero : clampWord 0 = 1 := rfl

theorem clampWord_of_ne_zero {w : Word} (h : w ≠ 0) : clampWord w = w := if_neg h

theorem clampWord_ne_zero (w : Word) : clampWord w ≠ 0 := by
  by_cases h : w = 0
  · subst h; decide
  · rwa [clampWord_of_ne_zero h]

@[simp] theorem clampBank_getElem_zero (b1 : Vector Word 18) : (clampBank b1)[0] = clampWord b1[0] :=
  Machine.clampBank_get b1 0

theorem clampBank_getElem_of_ne_zero (b1 : Vector Word 18) {k : Nat} (hk : k < 18) (h : k ≠ 0) :
    (clampBank b1)[k] = b1[k] :=
  (Machine.clampBank_get b1 ⟨k, hk⟩).trans (if_neg h)

/-- R111: an offset parameter may be 0, and then its field reads word 0. -/
theorem getElem_offset_of_val_eq_zero (v : Vector Word 18) {k : Fin 18} (h : k.val = 0) : v[k] = v[0] := by
  simp only [Fin.getElem_fin, h]

/-- R111: every reader already sees the clamped bank, so clamping it before changes no field. -/
@[simp] theorem decodeBanks_clampBank (c : Config) (b1 : Vector Word 18) (b2 : Vector Word 3) (b3 : Vector Word 20) :
    decodeBanks c (clampBank b1) b2 b3 = decodeBanks c b1 b2 b3 := by
  simp only [decodeBanks, Machine.clampBank_clampBank]

/-! ### Format PM as a shift and an OR (R116) -/

/-- R87: the shift pushes no bit of `hi` out of 32 bits, and `lo` lies below it. -/
theorem pairMulAdd_eq_shiftLeft_or (lo hi : Word) :
    pairMulAdd lo hi = (hi.setWidth 32 <<< 16) ||| lo.setWidth 32 := by
  rw [pairMulAdd_eq_append, BitVec.append_def, BitVec.shiftLeftZeroExtend_eq, BitVec.setWidth'_eq]

/-- The low word is offset 2 and the high word offset 3, neither touched by CLAMP. -/
theorem fieldYp_clampBank (b1 : Vector Word 18) : fieldYp (clampBank b1) = pairMulAdd b1[2] b1[3] := by
  rw [fieldYp, clampBank_getElem_of_ne_zero b1 (by decide) (by decide),
    clampBank_getElem_of_ne_zero b1 (by decide) (by decide)]

end Sys2Proof

namespace Sys2Proof.Machine

/-! ### Reading a written bank (R23) -/

theorem withBank1_of_written {s : State} (h : s.b1w = true) (f : Vector Word 18 → Result) :
    withBank1 s f = f (clampBank s.b1) := if_pos h

theorem withBank2_of_written {s : State} (h : s.b2w = true) (f : Vector Word 3 → Result) :
    withBank2 s f = f s.b2 := if_pos h

theorem withBank3_of_written {s : State} (h : s.b3w = true) (f : Vector Word 20 → Result) :
    withBank3 s f = f s.b3 := if_pos h

/-! ### What each operation answers -/

theorem exec_clamp {s : State} (h : s.b1w = true) : exec .clamp s = .next s.clampB1 := if_pos h

theorem exec_decDcv {s : State} (h : s.b1w = true) :
    exec .decDcv s = .next (s.setDraft { s.draft with dcVoltage := some (fieldDcv Config.active (clampBank s.b1)) }) := by
  rw [exec, execDecDcv, withBank1_of_written h]

theorem exec_decDci {s : State} (h : s.b1w = true) :
    exec .decDci s = .next (s.setDraft { s.draft with dcCurrent := some (fieldDci Config.active (clampBank s.b1)) }) := by
  rw [exec, execDecDci, withBank1_of_written h]

theorem exec_decDct {s : State} (h : s.b1w = true) :
    exec .decDct s =
      .next (s.setDraft { s.draft with dcTemperature := some (fieldDct Config.active (clampBank s.b1)) }) := by
  rw [exec, execDecDct, withBank1_of_written h]

theorem exec_decPvv {s : State} (h : s.b1w = true) :
    exec .decPvv s = .next (s.setDraft { s.draft with pvVoltage := some (fieldPvv (clampBank s.b1)) }) := by
  rw [exec, execDecPvv, withBank1_of_written h]

theorem exec_decYp {s : State} (h : s.b1w = true) :
    exec .decYp s = .next (s.setDraft { s.draft with yieldPower := some (fieldYp (clampBank s.b1)) }) := by
  rw [exec, execDecYp, withBank1_of_written h]

theorem exec_decLdi {s : State} (h : s.b1w = true) :
    exec .decLdi s = .next (s.setDraft { s.draft with loadCurrent := some (fieldLdi Config.active (clampBank s.b1)) }) := by
  rw [exec, execDecLdi, withBank1_of_written h]

theorem exec_decSt {s : State} (h : s.b2w = true) :
    exec .decSt s = .next (s.setDraft { s.draft with operatingState := some (fieldSt Config.active s.b2) }) := by
  rw [exec, execDecSt, withBank2_of_written h]

/-- R119: no operand, so no hypothesis on the banks. -/
theorem exec_decLds (s : State) : exec .decLds s = .next (s.setDraft { s.draft with loadState := some fieldLds }) := rfl

theorem exec_decDy {s : State} (h : s.b3w = true) :
    exec .decDy s = .next (s.setDraft { s.draft with dailyYield := some (fieldDy Config.active s.b3) }) := by
  rw [exec, execDecDy, withBank3_of_written h]

/-- R121: no operand, so no hypothesis on the banks. -/
theorem exec_decErr (s : State) : exec .decErr s = .next (s.setDraft { s.draft with errorCode := some fieldErr }) := rfl

theorem exec_decode {s : State} (h1 : s.b1w = true) (h2 : s.b2w = true) (h3 : s.b3w = true) :
    exec .decode s =
      .next (s.clampB1.setDraft (s.draft.withSnapshot (decodeBanks Config.active s.b1 s.b2 s.b3))) :=
  if_pos (by simp only [h1, h2, h3, Bool.and_self])

end Sys2Proof.Machine
end

section
/-! R110: after CLAMP the field operations may run in any order. What a run of them leaves in the draft depends only on
which of them it contains, so order and repetition do not matter. -/

namespace Sys2Proof.Machine

/-- The draft with the fields of the operations in `l` taken from the snapshot `p`; the other fields stay. -/
def Draft.writeFields (p : Snapshot) (l : List Instr) (d : Draft) : Draft :=
  { dcVoltage := if .decDcv ∈ l then some p.dcVoltage else d.dcVoltage
    dcCurrent := if .decDci ∈ l then some p.dcCurrent else d.dcCurrent
    dcTemperature := if .decDct ∈ l then some p.dcTemperature else d.dcTemperature
    pvVoltage := if .decPvv ∈ l then some p.pvVoltage else d.pvVoltage
    yieldPower := if .decYp ∈ l then some p.yieldPower else d.yieldPower
    loadCurrent := if .decLdi ∈ l then some p.loadCurrent else d.loadCurrent
    operatingState := if .decSt ∈ l then some p.operatingState else d.operatingState
    loadState := if .decLds ∈ l then some p.loadState else d.loadState
    dailyYield := if .decDy ∈ l then some p.dailyYield else d.dailyYield
    errorCode := if .decErr ∈ l then some p.errorCode else d.errorCode
    maxPowerToday := d.maxPowerToday }

@[simp] theorem Draft.writeFields_nil (p : Snapshot) (d : Draft) : d.writeFields p [] = d := by
  simp [Draft.writeFields]

theorem Draft.writeFields_writeFields (p : Snapshot) (l l' : List Instr) (d : Draft) :
    (d.writeFields p l).writeFields p l' = d.writeFields p (l' ++ l) := by
  simp only [Draft.writeFields, List.mem_append, ite_or]

/-- Only membership counts. -/
theorem Draft.writeFields_congr (p : Snapshot) {l l' : List Instr} (h : ∀ i, i ∈ l ↔ i ∈ l') (d : Draft) :
    d.writeFields p l = d.writeFields p l' := by
  simp only [Draft.writeFields, h]

/-- Running `i` and then `l` writes what `i :: l` names. -/
theorem Draft.writeFields_cons (p : Snapshot) (i : Instr) (l : List Instr) (d : Draft) :
    (d.writeFields p [i]).writeFields p l = d.writeFields p (i :: l) := by
  rw [Draft.writeFields_writeFields]
  exact Draft.writeFields_congr p (fun j => by simp [or_comm]) d

theorem Draft.writeFields_fieldOps (p : Snapshot) (d : Draft) : d.writeFields p fieldOps = d.withSnapshot p := by
  simp [Draft.writeFields, Draft.withSnapshot, fieldOps]

@[simp] theorem State.setDraft_setDraft (s : State) (d d' : Draft) : (s.setDraft d).setDraft d' = s.setDraft d' := rfl

/-- Each field operation writes its own field, with the value DECODE gives it. -/
theorem exec_fieldOp {i : Instr} (hi : i ∈ fieldOps) {s : State} (h1 : s.b1w = true) (h2 : s.b2w = true)
    (h3 : s.b3w = true) :
    exec i s = .next (s.setDraft (s.draft.writeFields (decodeBanks Config.active s.b1 s.b2 s.b3) [i])) := by
  simp only [fieldOps, List.mem_cons, List.not_mem_nil, or_false] at hi
  rcases hi with rfl | rfl | rfl | rfl | rfl | rfl | rfl | rfl | rfl | rfl
  exacts [exec_decDcv h1, exec_decDci h1, exec_decDct h1, exec_decPvv h1, exec_decYp h1, exec_decLdi h1,
    exec_decSt h2, exec_decLds s, exec_decDy h3, exec_decErr s]

/-- A run of field operations writes exactly their fields: none of them touches a bank or a mark, so each reads what the
first one read. -/
theorem runOps_fieldOps {l : List Instr} (hl : ∀ i ∈ l, i ∈ fieldOps) {s : State} (h1 : s.b1w = true)
    (h2 : s.b2w = true) (h3 : s.b3w = true) :
    runOps l s = .next (s.setDraft (s.draft.writeFields (decodeBanks Config.active s.b1 s.b2 s.b3) l)) := by
  induction l generalizing s with
  | nil => rw [Draft.writeFields_nil]; rfl
  | cons i l ih =>
    obtain ⟨hi, hl⟩ := List.forall_mem_cons.1 hl
    rw [runOps, exec_fieldOp hi h1 h2 h3, andThen_next, ih hl, State.setDraft_setDraft, State.setDraft_draft,
      State.setDraft_b1, State.setDraft_b2, State.setDraft_b3, Draft.writeFields_cons]
    exacts [h1, h2, h3]

/-- R110: CLAMP and then the ten field operations in any order do what DECODE does. -/
theorem runOps_clamp_fieldOps {l : List Instr} (hl : l.Perm fieldOps) {s : State} (h1 : s.b1w = true)
    (h2 : s.b2w = true) (h3 : s.b3w = true) : runOps (.clamp :: l) s = exec .decode s := by
  have hfields : runOps l s.clampB1 = _ := runOps_fieldOps (fun _ hi => hl.mem_iff.1 hi) h1 h2 h3
  rw [runOps, exec_clamp h1, andThen_next, hfields, exec_decode h1 h2 h3, Draft.writeFields_congr _ fun _ => hl.mem_iff,
    Draft.writeFields_fieldOps, State.clampB1_b1, State.clampB1_b2, State.clampB1_b3, State.clampB1_draft,
    decodeBanks_clampBank]

end Sys2Proof.Machine
end

section
/-! The obligations on the operations of 40_decode_ops.md. -/

namespace Sys2Proof.Machine

/-- Settles O15: DECODE's next state is written in the banks and the configuration alone, and CLAMP leaves every word of
bank 1 but word 0. -/
theorem decodeIsPure : Obligations.DecodeIsPure := by
  intro s s' h1 h2 h3 h1' h2' h3' hb1 hb2 hb3
  refine ⟨decodeBanks Config.active s.b1 s.b2 s.b3, clampBank s.b1, exec_decode h1 h2 h3, ?_, ?_⟩
  · rw [hb1, hb2, hb3]
    exact exec_decode h1' h2' h3'
  · exact fun k hk => clampBank_getElem_of_ne_zero s.b1 k.isLt hk

/-- Settles O16: by what a run of field operations writes, which depends only on the operations it contains. -/
theorem decodeIsClampThenFieldsInAnyOrder : Obligations.DecodeIsClampThenFieldsInAnyOrder := fun _ h1 h2 h3 =>
  ⟨fun _ hl => runOps_clamp_fieldOps hl h1 h2 h3, _, rfl, exec_decode h1 h2 h3⟩

/-- Settles O17: the clamp of one word, and that every field reads the clamped bank. -/
theorem clampFloorsWordZero : Obligations.ClampFloorsWordZero := by
  refine ⟨fun s h1 => ⟨clampWord s.b1[0], clampWord_toNat _, ?_, clampWord_of_ne_zero, exec_clamp h1⟩,
    fun c b1 b2 b3 => ⟨(decodeBanks_clampBank c b1 b2 b3).symm, ?_⟩⟩
  · intro h0
    rw [h0, clampWord_zero]
  · exact ⟨getElem_offset_of_val_eq_zero _, getElem_offset_of_val_eq_zero _, getElem_offset_of_val_eq_zero _,
      getElem_offset_of_val_eq_zero _, rfl⟩

/-- Settles O19: DEC.PVV reads word 0 of the clamped bank. -/
theorem pvVoltageIsNeverZero : Obligations.PvVoltageIsNeverZero := by
  intro s h1
  refine ⟨clampWord s.b1[0], clampWord_toNat _, clampWord_ne_zero _, ?_⟩
  rw [exec_decPvv h1, fieldPvv, clampBank_getElem_zero]
  rfl

/-- Settles O20: CLAMP does not touch the two words, and format PM is exact (R87). -/
theorem yieldPowerIsMultiplyAdd : Obligations.YieldPowerIsMultiplyAdd := by
  intro s h1
  refine ⟨pairMulAdd s.b1[2] s.b1[3], pairMulAdd_toNat _ _, pairMulAdd_eq_shiftLeft_or _ _, ?_⟩
  rw [exec_decYp h1, fieldYp_clampBank]
  rfl

/-- Settles O22: the two operations have no operands. -/
theorem constantFields : Obligations.ConstantFields := fun s => ⟨exec_decLds s, exec_decErr s⟩

end Sys2Proof.Machine
end

section
/-! What the shared operations of 41_pollcycle_ops.md leave alone: the response to an error (R178), and the reads of a
whole tick (R141 to R143). -/

namespace Sys2Proof.Machine

/-! ### The response to a TransportError from any count (R178) -/

/-- R178: beside ending the tick only the count, its free value, `RUN` and the trace can change, and the trace by HALT
alone. -/
theorem transportError_writes (s : State) : ∃ (c : BitVec 2) (k : Nat) (r : Bool) (es : List Event), pubsOf es = [] ∧
    transportError s = { endTick s with fc := c, freeIdx := k, run := r, trace := s.trace ++ es } := by
  have hinc : ∃ c k, fcIncrement s = { s with fc := c, freeIdx := k } := by
    rcases fcIncrement_cases s with ⟨-, h⟩ | ⟨-, h⟩
    · exact ⟨_, _, h⟩
    · exact ⟨_, _, h⟩
  obtain ⟨c, k, hck⟩ := hinc
  rw [transportError, hck]
  rcases haltCheck_cases { s with fc := c, freeIdx := k } with ⟨-, h⟩ | ⟨-, h⟩
  · exact ⟨c, k, false, [.halt], rfl, by rw [h]; rfl⟩
  · refine ⟨c, k, s.run, [], rfl, ?_⟩
    rw [h, List.append_nil]
    rfl

@[simp] theorem transportError_maxp (s : State) : (transportError s).maxp = s.maxp := by
  obtain ⟨_, _, _, _, -, h⟩ := transportError_writes s
  rw [h]; rfl

@[simp] theorem transportError_snk (s : State) : (transportError s).snk = s.snk := by
  obtain ⟨_, _, _, _, -, h⟩ := transportError_writes s
  rw [h]; rfl

@[simp] theorem transportError_snkHeld (s : State) : (transportError s).snkHeld = s.snkHeld := by
  obtain ⟨_, _, _, _, -, h⟩ := transportError_writes s
  rw [h]; rfl

@[simp] theorem pubsOf_transportError (s : State) : pubsOf (transportError s).trace = pubsOf s.trace := by
  obtain ⟨_, _, _, es, hes, h⟩ := transportError_writes s
  rw [h, pubsOf_append, hes, List.append_nil]

/-! ### The reads of a whole tick -/

/-- `u` is `s` inside a whole tick, its line taken and some of its reads issued and answered: the registers that outlive
a tick are those of `s`, and nothing was published. Banks, marks, draft and requests are left open. -/
structure MidTick (s u : State) : Prop where
  run : u.run = s.run
  fc : u.fc = s.fc
  maxp : u.maxp = s.maxp
  snk : u.snk = s.snk
  snkHeld : u.snkHeld = s.snkHeld
  opSel : u.opSel = s.opSel
  env : u.env = s.env.tail
  pubs : pubsOf u.trace = pubsOf s.trace

theorem MidTick.request {s u : State} (h : MidTick s u) (a : Addr) (n : Count) : MidTick s (u.emit (.req a n)) :=
  { h with pubs := by rw [State.emit_trace, pubsOf_append, h.pubs]; exact List.append_nil _ }

theorem MidTick.loadB1 {s u : State} (h : MidTick s u) (ws : Vector Word 18) : MidTick s (u.loadB1 ws) := { h with }

theorem MidTick.loadB2 {s u : State} (h : MidTick s u) (ws : Vector Word 3) : MidTick s (u.loadB2 ws) := { h with }

theorem MidTick.loadB3 {s u : State} (h : MidTick s u) (ws : Vector Word 20) : MidTick s (u.loadB3 ws) := { h with }

theorem midTick_beginTick (s : State) : MidTick s (beginTick s) :=
  MidTick.request (s := s) (u := s.dropEvent.discard) ⟨rfl, rfl, rfl, rfl, rfl, rfl, rfl, rfl⟩ _ _

/-- Read 1 answered well, read 2 issued. -/
theorem midTick_read2 (s : State) (w1 : Vector Word 18) : MidTick s ((beginTick s).loadB1 w1).request2 :=
  ((midTick_beginTick s).loadB1 w1).request _ _

/-- Read 2 answered well too, read 3 issued. -/
theorem midTick_read3 (s : State) (w1 : Vector Word 18) (w2 : Vector Word 3) :
    MidTick s ((((beginTick s).loadB1 w1).request2).loadB2 w2).request3 :=
  ((midTick_read2 s w1).loadB2 w2).request _ _

end Sys2Proof.Machine
end

section
/-! R149: PEAK compares strictly, and MAXP through every operation. -/

namespace Sys2Proof.Machine

/-! ### PEAK and the full success -/

theorem exec_peak {s : State} {yp : BitVec 32} (h : s.draft.yieldPower = some yp) :
    exec .peak s = .next (if newPeak yp s.maxp then s.setMaxp yp else s) := by
  simp only [exec, execPeak, peakOp, h]

theorem newPeak_iff (yp m : BitVec 32) : newPeak yp m = true ↔ m.toNat < yp.toNat := decide_eq_true_iff

/-- The comparison of R149 as a maximum: the new peak is never below the old one. -/
theorem le_ite_newPeak (yp m : BitVec 32) : m.toNat ≤ (if newPeak yp m then yp else m).toNat := by
  split
  · exact Nat.le_of_lt ((newPeak_iff yp m).1 ‹_›)
  · exact Nat.le_refl _

theorem le_maxp_of_peakOp {s t : State} (h : peakOp s = .next t) : s.maxp.toNat ≤ t.maxp.toNat := by
  obtain ⟨yp, -, rfl⟩ := peakOp_next h
  rw [apply_ite State.maxp, State.setMaxp_maxp]
  exact le_ite_newPeak yp s.maxp

theorem le_maxp_of_succeed {s t : State} (h1 : s.b1w = true) (h2 : s.b2w = true) (h3 : s.b3w = true)
    (h : succeed s = .next t) : s.maxp.toNat ≤ t.maxp.toNat := by
  rw [succeed_eq s h1 h2 h3] at h
  cases h
  exact le_ite_newPeak _ _

theorem le_maxp_of_tickOk {s t : State} (h : exec .tickOk s = .next t) : s.maxp.toNat ≤ t.maxp.toNat := by
  obtain ⟨_, _, _, _, -, -, -, hf⟩ := onTickLine_next h
  split at hf
  next w1 w2 w3 _ _ _ =>
    rw [← ((midTick_read3 s w1 w2).loadB3 w3).maxp]
    exact le_maxp_of_succeed rfl rfl rfl hf
  next => cases hf

/-! ### The operations that leave MAXP -/

theorem maxp_of_withBank1 {s t : State} {g : Vector Word 18 → Draft}
    (h : withBank1 s (fun b1 => .next (s.setDraft (g b1))) = .next t) : t.maxp = s.maxp := by
  obtain ⟨-, h⟩ := withBank1_next h
  cases h; rfl

theorem maxp_of_onAnswer {s t : State} {p : Phase} {n : Nat} {good : Vector Word n → State → State}
    (h : onAnswer s p n (fun ws u => .next (good ws u)) = .next t) (hgood : ∀ ws u, (good ws u).maxp = u.maxp) :
    t.maxp = s.maxp := by
  obtain ⟨-, _, _, -, ⟨ws, -, hg⟩ | ⟨-, rfl⟩⟩ := onAnswer_next h
  · cases hg; exact hgood ws s.dropEvent
  · exact transportError_maxp _

theorem maxp_of_rdblk1 {s t : State} (h : exec .rdblk1 s = .next t) : t.maxp = s.maxp := by
  simp only [exec, execRdblk1] at h
  split at h
  · split at h
    · cases h; rfl
    · split at h
      · cases h; rfl
      · cases h
  · cases h

theorem maxp_of_tickF1 {s t : State} {e2 e3 : Bool} (h : exec (.tickF1 e2 e3) s = .next t) : t.maxp = s.maxp := by
  obtain ⟨_, _, _, _, -, -, -, hf⟩ := onTickLine_next h
  split at hf
  · cases hf; exact (transportError_maxp _).trans (midTick_beginTick s).maxp
  · cases hf

theorem maxp_of_tickF2 {s t : State} {e3 : Bool} (h : exec (.tickF2 e3) s = .next t) : t.maxp = s.maxp := by
  obtain ⟨_, _, _, _, -, -, -, hf⟩ := onTickLine_next h
  split at hf
  · split at hf
    · cases hf; exact (transportError_maxp _).trans (midTick_read2 s _).maxp
    · cases hf
  · cases hf

theorem maxp_of_tickF3 {s t : State} (h : exec .tickF3 s = .next t) : t.maxp = s.maxp := by
  obtain ⟨_, _, _, _, -, -, -, hf⟩ := onTickLine_next h
  split at hf
  · split at hf
    · cases hf; exact (transportError_maxp _).trans (midTick_read3 s _ _).maxp
    · cases hf
  · cases hf

theorem maxp_of_tickNop {s t : State} {e1 e2 e3 : Bool} (h : exec (.tickNop e1 e2 e3) s = .next t) :
    t.maxp = s.maxp := by
  simp only [exec, execTickNop] at h
  split at h
  · split at h <;> cases h
    rfl
  · split at h <;> cases h
    rfl
  · cases h

/-- R149: no operation but PEAK and TICK.OK writes MAXP. -/
theorem exec_maxp_eq {i : Instr} {s t : State} (hpeak : i ≠ .peak) (hok : i ≠ .tickOk) (h : exec i s = .next t) :
    t.maxp = s.maxp := by
  cases i with
  | peak => exact absurd rfl hpeak
  | tickOk => exact absurd rfl hok
  | rdblk1 => exact maxp_of_rdblk1 h
  | rdblk2 | rdblk3 =>
    simp only [exec, execRdblk2, execRdblk3] at h
    exact maxp_of_onAnswer h fun _ _ => rfl
  | decDcv | decDci | decDct | decPvv | decYp | decLdi =>
    simp only [exec, execDecDcv, execDecDci, execDecDct, execDecPvv, execDecYp, execDecLdi] at h
    exact maxp_of_withBank1 h
  | decSt =>
    rw [exec, execDecSt] at h
    obtain ⟨-, h⟩ := withBank2_next h
    cases h; rfl
  | decDy =>
    rw [exec, execDecDy] at h
    obtain ⟨-, h⟩ := withBank3_next h
    cases h; rfl
  | decLds | decErr | outMaxp | fcclr => cases h; rfl
  | clamp => obtain ⟨-, rfl⟩ := clampOp_next h; rfl
  | decode => obtain ⟨-, rfl⟩ := decodeOp_next h; rfl
  | pub => obtain ⟨_, -, rfl⟩ := publishOp_next h; rfl
  | fcinc =>
    cases h
    rcases fcIncrement_cases s with ⟨-, hinc⟩ | ⟨-, hinc⟩
    · rw [hinc, State.setFc_maxp]
    · rw [hinc, State.bumpFree_maxp, State.setFc_maxp]
  | haltchk =>
    cases h
    rcases haltCheck_cases s with ⟨-, hchk⟩ | ⟨-, hchk⟩
    · rw [hchk, State.emit_maxp, State.terminate_maxp]
    · rw [hchk]
  | tickF1 e2 e3 => exact maxp_of_tickF1 h
  | tickF2 e3 => exact maxp_of_tickF2 h
  | tickF3 => exact maxp_of_tickF3 h
  | tickNop e1 e2 e3 => exact maxp_of_tickNop h

/-- R149: MAXP never goes down. -/
theorem exec_maxp_le {i : Instr} {s t : State} (h : exec i s = .next t) : s.maxp.toNat ≤ t.maxp.toNat := by
  by_cases hpeak : i = .peak
  · subst hpeak; exact le_maxp_of_peakOp h
  by_cases hok : i = .tickOk
  · subst hok; exact le_maxp_of_tickOk h
  rw [exec_maxp_eq hpeak hok h]

/-- Settles O27: PEAK by its comparison, the rest by what each operation does to MAXP. -/
theorem peakIsStrictMaximum : Obligations.PeakIsStrictMaximum := by
  refine ⟨fun s yp hy hlt => ?_, fun s yp hy hle => ?_, fun i s t h => ⟨exec_maxp_le h, fun hpeak hok =>
    exec_maxp_eq hpeak hok h⟩⟩
  · rw [exec_peak hy, if_pos ((newPeak_iff _ _).2 hlt)]
    rfl
  · rw [exec_peak hy, if_neg fun hn => absurd ((newPeak_iff _ _).1 hn) (Nat.not_lt.2 hle)]

end Sys2Proof.Machine
end

section
/-! The one step of a script line (R101, R145, R151 to R154), outcome by outcome, from its answers to the state it ends
in. -/

namespace Sys2Proof.Machine

/-! ### Good and bad answers of a line (R54) -/

theorem lineGood_eq (r : Option Answer) (n : Nat) : lineGood r n = (r.isSome && !lineBad r n) := by
  rw [lineGood_iff, lineWords_isSome]

theorem lineGood_iff_isNone_and_lineBad (r : Option Answer) (n : Nat) :
    lineGood r n = true ↔ r.isNone = false ∧ lineBad r n = false := by
  cases r <;> simp [lineGood_eq]

theorem exists_lineWords {r : Option Answer} {n : Nat} (h : lineGood r n = true) : ∃ ws, lineWords r n = some ws :=
  Option.isSome_iff_exists.1 (lineGood_iff r n ▸ h)

theorem isNone_of_lineBad {r : Option Answer} {n : Nat} (h : lineBad r n = true) : r.isNone = false := by
  cases r with
  | none => cases h
  | some a => rfl

theorem lineSucceeds_iff (r1 r2 r3 : Option Answer) : lineSucceeds r1 r2 r3 = true ↔
    lineGood r1 18 = true ∧ lineGood r2 3 = true ∧ lineGood r3 20 = true := by
  simp only [lineSucceeds, Bool.and_eq_true, and_assoc]

/-- The three reads a tick can fail at. -/
theorem lineFails_iff (r1 r2 r3 : Option Answer) : lineFails r1 r2 r3 = true ↔
    lineBad r1 18 = true ∨ (lineGood r1 18 = true ∧ lineBad r2 3 = true) ∨
    (lineGood r1 18 = true ∧ lineGood r2 3 = true ∧ lineBad r3 20 = true) := by
  simp only [lineFails, Bool.or_eq_true, Bool.and_eq_true, or_assoc, and_assoc]

/-! ### The outcome word of a line (R93) -/

theorem decode_outcomeWord (run e1 e2 e3 : Bool) : decode ⟨.outcome, outcomeWord run e1 e2 e3⟩ =
    .ok (if run then if e1 then .tickF1 e2 e3 else if e2 then .tickF2 e3 else if e3 then .tickF3 else .tickOk
      else .tickNop e1 e2 e3) := by
  revert run e1 e2 e3; decide

section
variable {r1 r2 r3 : Option Answer}

theorem lineOutcome_of_lineBad1 (h1 : lineBad r1 18 = true) :
    lineOutcome true r1 r2 r3 = some (outcomeWord true true (lineBad r2 3) (lineBad r3 20)) := by
  simp [lineOutcome, h1, isNone_of_lineBad h1]

theorem lineOutcome_of_lineBad2 (h1 : lineGood r1 18 = true) (h2 : lineBad r2 3 = true) :
    lineOutcome true r1 r2 r3 = some (outcomeWord true false true (lineBad r3 20)) := by
  obtain ⟨n1, g1⟩ := (lineGood_iff_isNone_and_lineBad r1 18).1 h1
  simp [lineOutcome, n1, g1, h2, isNone_of_lineBad h2]

/-- With two good answers the third `e` bit tells TICK.F3 from TICK.OK. -/
theorem lineOutcome_of_lineGood2 (h1 : lineGood r1 18 = true) (h2 : lineGood r2 3 = true) (h3 : r3.isNone = false) :
    lineOutcome true r1 r2 r3 = some (outcomeWord true false false (lineBad r3 20)) := by
  obtain ⟨n1, g1⟩ := (lineGood_iff_isNone_and_lineBad r1 18).1 h1
  obtain ⟨n2, g2⟩ := (lineGood_iff_isNone_and_lineBad r2 3).1 h2
  simp [lineOutcome, n1, g1, n2, g2, h3]

/-- A line that neither succeeds nor fails leaves a read without an answer. -/
theorem lineOutcome_eq_none (hs : lineSucceeds r1 r2 r3 = false) (hf : lineFails r1 r2 r3 = false) :
    lineOutcome true r1 r2 r3 = none := by
  simp only [lineSucceeds, lineFails, lineGood_eq, ← Option.not_isNone] at hs hf
  simp only [lineOutcome, if_true, blk1Len, blk2Len, blk3Len]
  split_ifs <;> simp_all

end

/-! ### The step of a line -/

section
variable {s : State} {r1 r2 r3 : Option Answer} {rest : List EnvEvent}

/-- R145: a terminated block takes the line and does nothing. -/
theorem step_line_terminated (hs : s.opSel = none) (he : s.env = .tickLine r1 r2 r3 :: rest) (hr : s.run = false) :
    step s = .next s.dropEvent := by
  simp only [step, select, hs, selectEvent, he, hr, Bool.false_and, Bool.false_eq_true, if_false, lineOutcome,
    decode_outcomeWord, exec, execTickNop, State.clearSel_of_none hs]

/-- R158: a running block takes a line between ticks only. -/
theorem idle_of_step_line {t : State} (hs : s.opSel = none) (he : s.env = .tickLine r1 r2 r3 :: rest)
    (hr : s.run = true) (h : step s = .next t) : s.ph = .idle := by
  by_contra hp
  simp [step, select, hs, selectEvent, he, hr, hp] at h

/-- The step of a line in a running block between ticks is the operation its outcome word selects. -/
theorem step_line {w : SelWord} {i : Instr} (hs : s.opSel = none) (he : s.env = .tickLine r1 r2 r3 :: rest)
    (hr : s.run = true) (hp : s.ph = .idle) (hw : lineOutcome true r1 r2 r3 = some w)
    (hi : decode ⟨.outcome, w⟩ = .ok i) : step s = exec i s := by
  simp [step, select, hs, selectEvent, he, hr, hp, hw, hi, State.clearSel_of_none hs]

/-- R73: without an answer that is asked for there is no step. -/
theorem step_line_unanswered (hs : s.opSel = none) (he : s.env = .tickLine r1 r2 r3 :: rest) (hr : s.run = true)
    (hp : s.ph = .idle) (hw : lineOutcome true r1 r2 r3 = none) : step s = .fault .readUnanswered := by
  simp [step, select, hs, selectEvent, he, hr, hp, hw]

theorem onTickLine_line (he : s.env = .tickLine r1 r2 r3 :: rest) (hr : s.run = true) (hp : s.ph = .idle)
    (f : Option Answer → Option Answer → Option Answer → Result) : onTickLine s f = f r1 r2 r3 := by
  simp [onTickLine, he, hr, hp]

/-- R151: three good answers fill the three banks, and the tick succeeds. -/
theorem step_line_succeeds (hs : s.opSel = none) (he : s.env = .tickLine r1 r2 r3 :: rest) (hr : s.run = true)
    (hp : s.ph = .idle) (h : lineSucceeds r1 r2 r3 = true) :
    ∃ u, MidTick s u ∧ (u.b1w = true ∧ u.b2w = true ∧ u.b3w = true) ∧ step s = succeed u := by
  obtain ⟨h1, h2, h3⟩ := (lineSucceeds_iff r1 r2 r3).1 h
  obtain ⟨n3, g3⟩ := (lineGood_iff_isNone_and_lineBad r3 20).1 h3
  obtain ⟨w1, hw1⟩ := exists_lineWords h1
  obtain ⟨w2, hw2⟩ := exists_lineWords h2
  obtain ⟨w3, hw3⟩ := exists_lineWords h3
  refine ⟨_, (midTick_read3 s w1 w2).loadB3 w3, ⟨rfl, rfl, rfl⟩, ?_⟩
  rw [step_line hs he hr hp (lineOutcome_of_lineGood2 h1 h2 n3) (decode_outcomeWord ..), g3]
  exact (onTickLine_line he hr hp _).trans (by simp only [hw1, hw2, hw3])

/-- R152 to R154: whichever read fails, the tick ends in the response to a TransportError. -/
theorem step_line_fails (hs : s.opSel = none) (he : s.env = .tickLine r1 r2 r3 :: rest) (hr : s.run = true)
    (hp : s.ph = .idle) (h : lineFails r1 r2 r3 = true) :
    ∃ u, MidTick s u ∧ step s = .next (transportError u) := by
  rcases (lineFails_iff r1 r2 r3).1 h with h1 | ⟨h1, h2⟩ | ⟨h1, h2, h3⟩
  · refine ⟨_, midTick_beginTick s, ?_⟩
    rw [step_line hs he hr hp (lineOutcome_of_lineBad1 h1) (decode_outcomeWord ..)]
    exact (onTickLine_line he hr hp _).trans (if_pos h1)
  · obtain ⟨w1, hw1⟩ := exists_lineWords h1
    refine ⟨_, midTick_read2 s w1, ?_⟩
    rw [step_line hs he hr hp (lineOutcome_of_lineBad2 h1 h2) (decode_outcomeWord ..)]
    exact (onTickLine_line he hr hp _).trans (by simp only [hw1, h2, if_true])
  · obtain ⟨w1, hw1⟩ := exists_lineWords h1
    obtain ⟨w2, hw2⟩ := exists_lineWords h2
    refine ⟨_, midTick_read3 s w1 w2, ?_⟩
    rw [step_line hs he hr hp (lineOutcome_of_lineGood2 h1 h2 (isNone_of_lineBad h3)) (decode_outcomeWord ..), h3]
    exact (onTickLine_line he hr hp _).trans (by simp only [hw1, hw2, h3, if_true])

end

/-! ### A tick publishes if and only if it is a TICK.OK (R156) -/

/-- R150, R151: a full success publishes one bundle, the one the sink then holds. -/
theorem succeed_publishes {u t : State} (h1 : u.b1w = true) (h2 : u.b2w = true) (h3 : u.b3w = true)
    (h : succeed u = .next t) : pubsOf t.trace = pubsOf u.trace ++ [t.snk] ∧ t.snkHeld = true := by
  rw [succeed_eq u h1 h2 h3] at h
  cases h
  exact ⟨pubsOf_append _ _, rfl⟩

/-- Settles O52: a success by what TICK.OK publishes; otherwise the block is terminated, or the line fails and the
response to the error leaves the sink, or a read stays unanswered and there is no step. -/
theorem publishIffFullSuccess : Obligations.PublishIffFullSuccess := by
  intro s t r1 r2 r3 rest hs he h
  constructor
  · intro hr hgood
    obtain ⟨u, hu, ⟨h1, h2, h3⟩, hstep⟩ := step_line_succeeds hs he hr (idle_of_step_line hs he hr h) hgood
    rw [← hu.pubs]
    exact succeed_publishes h1 h2 h3 (hstep.symm.trans h)
  · intro hbad
    cases hr : s.run with
    | false =>
      rw [step_line_terminated hs he hr] at h
      cases h
      exact ⟨rfl, rfl, rfl⟩
    | true =>
      have hp := idle_of_step_line hs he hr h
      have hgood : lineSucceeds r1 r2 r3 = false := hbad.resolve_left (by simp [hr])
      cases hf : lineFails r1 r2 r3 with
      | true =>
        obtain ⟨u, hu, hstep⟩ := step_line_fails hs he hr hp hf
        rw [hstep] at h
        cases h
        rw [pubsOf_transportError, transportError_snk, transportError_snkHeld]
        exact ⟨hu.pubs, hu.snk, hu.snkHeld⟩
      | false =>
        rw [step_line_unanswered hs he hr hp (lineOutcome_eq_none hgood hf)] at h
        cases h

end Sys2Proof.Machine
end

section
/-! R157: the failure count over a run of whole ticks. A failed tick takes the count `n` to `min (n + 1) 3`, and at 3 the
block is terminated and every further line leaves it there. -/

namespace Sys2Proof.Machine

/-- The block stands between two ticks with the script `env` before it and `n` failed ticks in a row behind it, and has
terminated if and only if these are 3 (R31(a)). -/
structure BetweenTicks (s : State) (env : List EnvEvent) (n : Nat) : Prop where
  no_sel : s.opSel = none
  idle : s.ph = .idle
  script : s.env = env
  count : s.fc.toNat = n
  run : s.run = decide (n < 3)

theorem ControlInv.betweenTicks {s : State} (h : ControlInv s) (hp : s.ph = .idle) {env : List EnvEvent}
    (he : s.env = env) : BetweenTicks s env s.fc.toNat := by
  refine ⟨h.no_sel, hp, he, rfl, ?_⟩
  have hfc : s.fc = 3 ↔ ¬ s.fc.toNat < 3 := by bv_omega
  have hrun := h.run_fc.trans hfc
  cases hr : s.run <;> simp_all

section
variable {s : State} {r1 r2 r3 : Option Answer} {rest : List EnvEvent} {n : Nat}

/-- R146, R147, R178: one more failed tick; R145 when the block has already terminated. -/
theorem BetweenTicks.fail (h : BetweenTicks s (.tickLine r1 r2 r3 :: rest) n) (hf : lineFails r1 r2 r3 = true) :
    ∃ t, step s = .next t ∧ BetweenTicks t rest (min (n + 1) 3) ∧ t.maxp = s.maxp := by
  obtain ⟨hs, hp, he, hc, hr⟩ := h
  have hlt := s.fc.isLt
  by_cases hn : n < 3
  · rw [decide_eq_true hn] at hr
    obtain ⟨u, hu, hstep⟩ := step_line_fails hs he hr hp hf
    have hsum : (u.fc + 1).toNat = min (n + 1) 3 := by
      rw [hu.fc]
      bv_omega
    have hrun : (!thirdFailure u.fc) = decide (min (n + 1) 3 < 3) := by
      rw [thirdFailure, hu.fc, hc, ← decide_not]
      exact decide_eq_decide.2 (by omega)
    rw [transportError_eq u (hu.run.trans hr) (by rw [hu.fc, hc]; exact hn)] at hstep
    exact ⟨_, hstep, ⟨hu.opSel.trans hs, rfl, hu.env.trans (by rw [he]; rfl), hsum, hrun⟩, hu.maxp⟩
  · rw [decide_eq_false hn] at hr
    have hmin : min (n + 1) 3 = n := by omega
    rw [hmin]
    exact ⟨_, step_line_terminated hs he hr, ⟨hs, hp, by rw [State.dropEvent_env, he]; rfl, hc,
      hr.trans (decide_eq_false hn).symm⟩, rfl⟩

/-- R148, R151: a success in a running block clears the count. -/
theorem BetweenTicks.succeed (h : BetweenTicks s (.tickLine r1 r2 r3 :: rest) n) (hn : n < 3)
    (hg : lineSucceeds r1 r2 r3 = true) : ∃ t, step s = .next t ∧ BetweenTicks t rest 0 := by
  obtain ⟨hs, hp, he, -, hr⟩ := h
  rw [decide_eq_true hn] at hr
  obtain ⟨u, hu, ⟨h1, h2, h3⟩, hstep⟩ := step_line_succeeds hs he hr hp hg
  rw [succeed_eq u h1 h2 h3] at hstep
  exact ⟨_, hstep, hu.opSel.trans hs, rfl, hu.env.trans (by rw [he]; rfl), rfl, hu.run.trans hr⟩

end

/-- The event is a script line whose tick fails. -/
def isFailingLine : EnvEvent → Bool
  | .tickLine r1 r2 r3 => lineFails r1 r2 r3
  | _ => false

@[simp] theorem isFailingLine_tickLine (r1 r2 r3 : Option Answer) :
    isFailingLine (.tickLine r1 r2 r3) = lineFails r1 r2 r3 := rfl

/-- Failed ticks in a row count up to 3, whatever reads they fail at. -/
theorem BetweenTicks.runSteps_fail {es rest : List EnvEvent} (hes : ∀ e ∈ es, isFailingLine e = true) {s : State}
    {n : Nat} (h : BetweenTicks s (es ++ rest) n) : ∃ t, runSteps es.length s = .next t ∧
      BetweenTicks t rest (min (n + es.length) 3) ∧ t.maxp = s.maxp := by
  induction es generalizing s n with
  | nil =>
    have hmin : min n 3 = n := by
      have hc := h.count
      have hlt := s.fc.isLt
      omega
    exact ⟨s, rfl, by rwa [List.length_nil, Nat.add_zero, hmin], rfl⟩
  | cons e es ih =>
    obtain ⟨he, hfails⟩ := List.forall_mem_cons.1 hes
    cases e with
    | tickLine r1 r2 r3 =>
      obtain ⟨u, hstep, hu, hmu⟩ := BetweenTicks.fail h he
      obtain ⟨t, hrun, ht, hmt⟩ := ih hfails hu
      have hmin : min (min (n + 1) 3 + es.length) 3 = min (n + (es.length + 1)) 3 := by omega
      exact ⟨t, (runSteps_succ hstep).trans hrun, hmin ▸ ht, hmt.trans hmu⟩
    | reset | tick | answer r | lateAnswer r => cases he

/-- A run goes on where its first part ended. -/
theorem runSteps_add {j k : Nat} {s u : State} (h : runSteps j s = .next u) : runSteps (j + k) s = runSteps k u := by
  induction j generalizing s with
  | zero => cases h; rw [Nat.zero_add]
  | succ j ih =>
    obtain ⟨v, hv, hu⟩ := andThen_eq_next h
    rw [Nat.succ_add, runSteps_succ hv, ih hu]

/-- Three failed ticks in a row reach 3 from any count, and a terminated block stays where it is. -/
theorem BetweenTicks.threeFailures {s : State} {a1 a2 a3 b1 b2 b3 c1 c2 c3 : Option Answer} {rest : List EnvEvent}
    {n : Nat} (h : BetweenTicks s (.tickLine a1 a2 a3 :: .tickLine b1 b2 b3 :: .tickLine c1 c2 c3 :: rest) n)
    (ha : lineFails a1 a2 a3 = true) (hb : lineFails b1 b2 b3 = true) (hc : lineFails c1 c2 c3 = true) :
    ∃ t, runSteps 3 s = .next t ∧ BetweenTicks t rest 3 ∧ t.maxp = s.maxp := by
  obtain ⟨t, hrun, ht, hm⟩ := BetweenTicks.runSteps_fail
    (es := [.tickLine a1 a2 a3, .tickLine b1 b2 b3, .tickLine c1 c2 c3]) (rest := rest)
    (by simp [ha, hb, hc]) h
  have hmin : min (n + 3) 3 = 3 := by omega
  exact ⟨t, hrun, hmin ▸ ht, hm⟩

/-- Two failed ticks after a count of 0 stop at 2. -/
theorem BetweenTicks.twoFailures {s : State} {a1 a2 a3 b1 b2 b3 : Option Answer} {rest : List EnvEvent}
    (h : BetweenTicks s (.tickLine a1 a2 a3 :: .tickLine b1 b2 b3 :: rest) 0)
    (ha : lineFails a1 a2 a3 = true) (hb : lineFails b1 b2 b3 = true) :
    ∃ t, runSteps 2 s = .next t ∧ BetweenTicks t rest 2 := by
  obtain ⟨t, hrun, ht, -⟩ := BetweenTicks.runSteps_fail
    (es := [.tickLine a1 a2 a3, .tickLine b1 b2 b3]) (rest := rest)
    (by simp [ha, hb]) h
  exact ⟨t, hrun, ht⟩

theorem BetweenTicks.fc_eq {s : State} {env : List EnvEvent} {n : Nat} (h : BetweenTicks s env n) :
    s.fc = BitVec.ofNat 2 n := by
  rw [← h.count, BitVec.ofNat_toNat, BitVec.setWidth_eq]

/-- From a count of 0 the control invariants give the start of a run of ticks. -/
theorem ControlInv.betweenTicks_zero {s : State} (h : ControlInv s) (hfc : s.fc = 0) (hp : s.ph = .idle)
    {env : List EnvEvent} (he : s.env = env) : BetweenTicks s env 0 := by
  have hb := h.betweenTicks hp he
  rwa [hfc] at hb

/-- Settles O59, by counting: failures add 1 up to 3, a success between them starts again at 0. -/
theorem threeConsecutiveFailuresTerminate : Obligations.ThreeConsecutiveFailuresTerminate := by
  refine ⟨?_, ?_, ?_⟩
  · intro s a1 a2 a3 b1 b2 b3 c1 c2 c3 rest hinv _ hp he ha hb hc
    obtain ⟨t, hrun, ht, hm⟩ := (hinv.betweenTicks hp he).threeFailures ha hb hc
    exact ⟨t, hrun, ht.run, ht.fc_eq, hm⟩
  · intro s a1 a2 a3 b1 b2 b3 rest hinv hfc hp he ha hb
    obtain ⟨t, hrun, ht⟩ := (hinv.betweenTicks_zero hfc hp he).twoFailures ha hb
    exact ⟨t, hrun, ht.run, ht.fc_eq⟩
  · intro s a1 a2 a3 b1 b2 b3 g1 g2 g3 c1 c2 c3 d1 d2 d3 rest hinv hfc hp he ha hb hg hc hd
    obtain ⟨u, hrun, hu⟩ := (hinv.betweenTicks_zero hfc hp he).twoFailures ha hb
    obtain ⟨v, hstep, hv⟩ := hu.succeed (by decide) hg
    obtain ⟨t, hrun', ht⟩ := hv.twoFailures hc hd
    have htotal : runSteps (2 + (2 + 1)) s = .next t :=
      (runSteps_add hrun).trans ((runSteps_succ hstep).trans hrun')
    exact ⟨t, htotal, ht.run, ht.fc_eq⟩

end Sys2Proof.Machine
end

section
/-! R178: a bad answer to the read in flight, from the step that takes it to the state of a failed tick. -/

namespace Sys2Proof.Machine

/-! ### The step of an answer, phase by phase (R142 to R144) -/

section
variable {s : State} {r : Answer} {rest : List EnvEvent}

/-- In a running block an answer runs what the phase that awaits it selects. -/
theorem select_answer (hs : s.opSel = none) (hr : s.run = true) (he : s.env = .answer r :: rest) :
    select s = selectAnswer s.ph := by
  simp [select, hs, selectEvent, he, hr]

/-- R142: the answer of read 1. -/
theorem step_answer_w1 (hs : s.opSel = none) (hr : s.run = true) (he : s.env = .answer r :: rest) (hp : s.ph = .w1) :
    step s = execRdblk2 s := by
  have hsel : select s = .op (encode .rdblk2) := by rw [select_answer hs hr he, hp]; rfl
  have hdec : decode (encode .rdblk2) = .ok .rdblk2 := by decide
  simp only [step, hsel, hdec, exec, State.clearSel_of_none hs]

/-- R143: the answer of read 2. -/
theorem step_answer_w2 (hs : s.opSel = none) (hr : s.run = true) (he : s.env = .answer r :: rest) (hp : s.ph = .w2) :
    step s = execRdblk3 s := by
  have hsel : select s = .op (encode .rdblk3) := by rw [select_answer hs hr he, hp]; rfl
  have hdec : decode (encode .rdblk3) = .ok .rdblk3 := by decide
  simp only [step, hsel, hdec, exec, State.clearSel_of_none hs]

/-- R144: the answer of read 3. -/
theorem step_answer_w3 (hs : s.opSel = none) (hr : s.run = true) (he : s.env = .answer r :: rest) (hp : s.ph = .w3) :
    step s = closeTick s := by
  have hsel : select s = .close := by rw [select_answer hs hr he, hp]; rfl
  simp only [step, hsel]

/-! ### A bad answer (R171, R178) -/

/-- Whatever a good answer would do, a bad one takes the block to the state of a failed tick. -/
theorem onAnswer_of_bad {p : Phase} {n : Nat} (hp : s.ph = p) (hr : s.run = true) (hf : s.fc.toNat < 3)
    (he : s.env = .answer r :: rest) (hbad : r.bad n = true) (good : Vector Word n → State → Result) :
    onAnswer s p n good = .next (failedTick s rest []) := by
  have hw : r.words n = none := (Answer_words_eq_none r n).2 hbad
  calc onAnswer s p n good = .next (transportError s.dropEvent) := by simp only [onAnswer, hp, he, hw, if_true]
    _ = .next (failedTick s.dropEvent s.dropEvent.env []) := by rw [transportError_eq s.dropEvent hr hf]
    _ = .next (failedTick s rest []) := by rw [State.dropEvent_of_cons he]; rfl

end

/-- A failed tick publishes what the events before its HALT publish. -/
theorem pubsOf_failedTick (s : State) (rest : List EnvEvent) (evs : List Event) :
    pubsOf (failedTick s rest evs).trace = pubsOf s.trace ++ pubsOf evs := by
  have hhalt : pubsOf (if thirdFailure s.fc then [Event.halt] else []) = [] := by split <;> rfl
  simp only [failedTick, pubsOf_append, hhalt, List.append_nil]

/-- Settles O34: each phase's step hands the answer to `onAnswer`, which treats a bad one the same in all three. -/
theorem transportErrorEntry : Obligations.TransportErrorEntry := by
  intro s r rest n hs hr hf hph he hbad
  refine ⟨?_, rfl, rfl, rfl, rfl, (pubsOf_failedTick s rest []).trans (List.append_nil _)⟩
  rcases hph with ⟨hp, rfl⟩ | ⟨hp, rfl⟩ | ⟨hp, rfl⟩
  · exact (step_answer_w1 hs hr he hp).trans (onAnswer_of_bad hp hr hf he hbad _)
  · exact (step_answer_w2 hs hr he hp).trans (onAnswer_of_bad hp hr hf he hbad _)
  · exact (step_answer_w3 hs hr he hp).trans (onAnswer_of_bad hp hr hf he hbad _)

end Sys2Proof.Machine
end

section
/-! R201: what a step other than reset does to `RUN` and MAXP. Operations only ever clear `RUN` (R147), and MAXP through
every operation is R149; the answer of read 3 is the one step that writes MAXP without an operation (R144). -/

namespace Sys2Proof.Machine

/-! ### A terminated block stays terminated (R147, R183) -/

@[simp] theorem fcIncrement_run (s : State) : (fcIncrement s).run = s.run := by
  rcases fcIncrement_cases s with ⟨-, h⟩ | ⟨-, h⟩ <;> rw [h] <;> rfl

theorem haltCheck_run_eq_false {s : State} (hr : s.run = false) : (haltCheck s).run = false := by
  rcases haltCheck_cases s with ⟨-, h⟩ | ⟨-, h⟩
  · rw [h]; rfl
  · rwa [h]

theorem transportError_run_eq_false {s : State} (hr : s.run = false) : (transportError s).run = false :=
  haltCheck_run_eq_false ((fcIncrement_run s).trans hr)

theorem run_of_withBank1 {s t : State} {g : Vector Word 18 → Draft}
    (h : withBank1 s (fun b1 => .next (s.setDraft (g b1))) = .next t) : t.run = s.run := by
  obtain ⟨-, h⟩ := withBank1_next h
  cases h; rfl

/-- An answer leaves a terminated block terminated, if what a good one does leaves it so. -/
theorem run_eq_false_of_onAnswer {s t : State} {p : Phase} {n : Nat} {good : Vector Word n → State → Result}
    (hr : s.run = false) (h : onAnswer s p n good = .next t)
    (hgood : ∀ ws u, u.run = false → good ws u = .next t → t.run = false) : t.run = false := by
  obtain ⟨-, _, _, -, ⟨ws, -, hg⟩ | ⟨-, rfl⟩⟩ := onAnswer_next h
  · exact hgood ws s.dropEvent hr hg
  · exact transportError_run_eq_false hr

/-- R93: the whole-tick operations with `run = 1` do not answer in a terminated block. -/
theorem onTickLine_ne_next {s t : State} {f : Option Answer → Option Answer → Option Answer → Result}
    (hr : s.run = false) : onTickLine s f ≠ .next t := by
  intro h
  obtain ⟨_, _, _, _, -, hrun, -⟩ := onTickLine_next h
  exact Bool.false_ne_true (hr.symm.trans hrun)

/-- R145: in a terminated block the strobe is taken and that is all. -/
theorem rdblk1_of_terminated {s t : State} (hr : s.run = false) (h : exec .rdblk1 s = .next t) : t = s.dropEvent := by
  simp only [exec, execRdblk1, hr, Bool.not_false, if_true] at h
  split at h <;> cases h
  rfl

theorem tickNop_eq_dropEvent {s t : State} {e1 e2 e3 : Bool} (h : exec (.tickNop e1 e2 e3) s = .next t) :
    t = s.dropEvent := by
  simp only [exec, execTickNop] at h
  split at h
  · split at h <;> cases h
    rfl
  · split at h <;> cases h
    rfl
  · cases h

/-- R201: no operation sets `RUN`. -/
theorem exec_run_eq_false {i : Instr} {s t : State} (hr : s.run = false) (h : exec i s = .next t) : t.run = false := by
  cases i with
  | rdblk1 => rw [rdblk1_of_terminated hr h]; exact hr
  | rdblk2 | rdblk3 =>
    simp only [exec, execRdblk2, execRdblk3] at h
    exact run_eq_false_of_onAnswer hr h fun _ _ hu hg => by cases hg; exact hu
  | decDcv | decDci | decDct | decPvv | decYp | decLdi =>
    simp only [exec, execDecDcv, execDecDci, execDecDct, execDecPvv, execDecYp, execDecLdi] at h
    exact (run_of_withBank1 h).trans hr
  | decSt =>
    rw [exec, execDecSt] at h
    obtain ⟨-, h⟩ := withBank2_next h
    cases h; exact hr
  | decDy =>
    rw [exec, execDecDy] at h
    obtain ⟨-, h⟩ := withBank3_next h
    cases h; exact hr
  | decLds | decErr | outMaxp | fcclr => cases h; exact hr
  | clamp => obtain ⟨-, rfl⟩ := clampOp_next h; exact hr
  | decode => obtain ⟨-, rfl⟩ := decodeOp_next h; exact hr
  | peak =>
    obtain ⟨yp, -, rfl⟩ := peakOp_next h
    rw [apply_ite State.run, State.setMaxp_run, ite_self]
    exact hr
  | pub => obtain ⟨_, -, rfl⟩ := publishOp_next h; exact hr
  | fcinc => cases h; exact (fcIncrement_run s).trans hr
  | haltchk => cases h; exact haltCheck_run_eq_false hr
  | tickOk | tickF1 _ _ | tickF2 _ | tickF3 => exact absurd h (onTickLine_ne_next hr)
  | tickNop e1 e2 e3 => rw [tickNop_eq_dropEvent h]; exact hr

/-! ### The answer of read 3 (R144) -/

/-- R23: a success answers only where DECODE finds the three banks written. -/
theorem written_of_succeed {s t : State} (h : succeed s = .next t) : s.b1w = true ∧ s.b2w = true ∧ s.b3w = true := by
  obtain ⟨_, hdecode, -⟩ := andThen_eq_next h
  exact (decodeOp_next hdecode).1

theorem run_of_succeed {s t : State} (h : succeed s = .next t) : t.run = s.run := by
  obtain ⟨h1, h2, h3⟩ := written_of_succeed h
  rw [succeed_eq s h1 h2 h3] at h
  cases h; rfl

theorem closeTick_maxp_le {s t : State} (h : closeTick s = .next t) : s.maxp.toNat ≤ t.maxp.toNat := by
  obtain ⟨-, _, _, -, ⟨ws, -, hg⟩ | ⟨-, rfl⟩⟩ := onAnswer_next h
  · obtain ⟨h1, h2, h3⟩ := written_of_succeed hg
    exact le_maxp_of_succeed (s := s.dropEvent.loadB3 ws) h1 h2 h3 hg
  · rw [transportError_maxp]; exact Nat.le_refl _

theorem closeTick_run_eq_false {s t : State} (hr : s.run = false) (h : closeTick s = .next t) : t.run = false :=
  run_eq_false_of_onAnswer hr h fun _ _ hu hg => (run_of_succeed hg).trans hu

/-! ### The step -/

/-- R200: the step of an asserted reset. -/
theorem step_reset {s : State} (h : select s = .reset) : step s = .next (applyReset s) := by
  simp only [step, h]

/-- Settles O51: outside reset a step is an operation, the answer of read 3, or takes an event and leaves the block. -/
theorem onlyResetRevivesOrLowersPeak : Obligations.OnlyResetRevivesOrLowersPeak := by
  intro s t h
  refine ⟨fun hne => ?_, fun hreset => ?_⟩
  · rcases step_cases h with ⟨hreset, -⟩ | ⟨_, _, -, -, hop⟩ | ⟨-, hclose⟩ | ⟨-, rfl⟩ | ⟨-, rfl⟩
    · exact absurd hreset hne
    · exact ⟨exec_maxp_le (s := s.clearSel) hop, fun hr => exec_run_eq_false (s := s.clearSel) hr hop⟩
    · exact ⟨closeTick_maxp_le hclose, fun hr => closeTick_run_eq_false hr hclose⟩
    · exact ⟨Nat.le_refl _, id⟩
    · exact ⟨Nat.le_refl _, id⟩
  · rw [step_reset hreset] at h
    cases h
    exact ⟨rfl, rfl⟩

end Sys2Proof.Machine
end

section
/-! The four selector formats of 30_encoding.md: decoding undoes encoding, and a word that decodes is the encoding of what
it decodes to. -/

namespace Sys2Proof

open Machine (decode_outcomeWord)

/-! ### Decoding an encoding -/

/-- Every operation, don't-care bits included, decodes from its own selector. -/
theorem decode_encode (i : Instr) : decode (encode i) = .ok i := by
  cases i with
  | tickOk => exact decode_outcomeWord true false false false
  | tickF1 e2 e3 => exact decode_outcomeWord true true e2 e3
  | tickF2 e3 => exact decode_outcomeWord true false true e3
  | tickF3 => exact decode_outcomeWord true false false true
  | tickNop e1 e2 e3 => exact decode_outcomeWord false e1 e2 e3
  | rdblk1 | rdblk2 | rdblk3 => decide
  | _ => rfl

/-! ### Encoding what was decoded, format by format -/

/-- R82: the two fields are the whole word. -/
theorem rqWord_fields (w : SelWord) : rqWord (rqAddr w) (rqCnt w) = w := by
  have hparts : w.extractLsb' 8 16 ++ w.extractLsb' 0 8 = w.extractLsb' 0 24 :=
    BitVec.extractLsb'_append_extractLsb'_eq_extractLsb' (by decide)
  exact hparts.trans (BitVec.extractLsb'_eq_self)

theorem encode_of_decodeRequest {w : SelWord} {i : Instr} (h : decodeRequest w = .ok i) : encode i = ⟨.request, w⟩ := by
  have hw := rqWord_fields w
  unfold decodeRequest at h
  split at h
  next hf => cases h; rw [hf.1, hf.2] at hw; rw [encode, hw]
  split at h
  next hf => cases h; rw [hf.1, hf.2] at hw; rw [encode, hw]
  split at h
  next hf => cases h; rw [hf.1, hf.2] at hw; rw [encode, hw]
  cases h

theorem encode_of_decodeSinkPort {w : SelWord} {i : Instr} (h : decodeSinkPort w = .ok i) :
    encode i = ⟨.sinkPort, w⟩ := by
  unfold decodeSinkPort at h
  split at h
  case h_12 => split at h <;> cases h
  all_goals
    next hw =>
      cases h
      exact congrArg (Sel.mk .sinkPort) (BitVec.eq_of_toNat_eq hw.symm)

theorem encode_of_decodeMicroStep {w : SelWord} {i : Instr} (h : decodeMicroStep w = .ok i) :
    encode i = ⟨.microStep, w⟩ := by
  unfold decodeMicroStep at h
  split at h
  case h_8 => split at h <;> cases h
  all_goals
    next hw =>
      cases h
      exact congrArg (Sel.mk .microStep) (BitVec.eq_of_toNat_eq hw.symm)

/-- R93: below 16 the four bits are the whole word. -/
theorem outcomeWord_bits {w : SelWord} (h : w.toNat < 16) :
    outcomeWord (w.getLsbD 3) (w.getLsbD 2) (w.getLsbD 1) (w.getLsbD 0) = w := by
  have hall : ∀ n : Fin 16, outcomeWord ((BitVec.ofNat 24 n.val).getLsbD 3) ((BitVec.ofNat 24 n.val).getLsbD 2)
      ((BitVec.ofNat 24 n.val).getLsbD 1) ((BitVec.ofNat 24 n.val).getLsbD 0) = BitVec.ofNat 24 n.val := by decide
  have hw : BitVec.ofNat 24 w.toNat = w := by rw [BitVec.ofNat_toNat, BitVec.setWidth_eq]
  simpa only [hw] using hall ⟨w.toNat, h⟩

/-- R93: the rows of the outcome table, read from the word to the operation. -/
theorem encode_outcome (run e1 e2 e3 : Bool) :
    encode (if run then if e1 then .tickF1 e2 e3 else if e2 then .tickF2 e3 else if e3 then .tickF3 else .tickOk
      else .tickNop e1 e2 e3) = ⟨.outcome, outcomeWord run e1 e2 e3⟩ := by
  revert run e1 e2 e3; decide

/-- R94: every outcome word is the one its operation is written with. -/
theorem encode_of_decodeOutcome {w : SelWord} {i : Instr} (h : decodeOutcome w = .ok i) : encode i = ⟨.outcome, w⟩ := by
  by_cases hlt : w.toNat < 16
  · cases (if_pos hlt).symm.trans h
    rw [encode_outcome, outcomeWord_bits hlt]
  · cases (if_neg hlt).symm.trans h

theorem encode_of_decode {sel : Sel} {i : Instr} (h : decode sel = .ok i) : encode i = sel := by
  obtain ⟨fmt, w⟩ := sel
  cases fmt with
  | request => exact encode_of_decodeRequest h
  | sinkPort => exact encode_of_decodeSinkPort h
  | microStep => exact encode_of_decodeMicroStep h
  | outcome => exact encode_of_decodeOutcome h

/-- Settles O3: the two directions are proved apart, the second format by format. -/
theorem decodeInvertsEncode : Obligations.DecodeInvertsEncode := fun _ i =>
  ⟨encode_of_decode, fun h => h ▸ decode_encode i⟩

/-! ### The words that decode (R83, R91 to R94, R97) -/

/-- The selector of every operation is a legal one. -/
theorem wf_encode (i : Instr) : (encode i).wf = true := by
  cases i with
  | tickF1 e2 e3 => revert e2 e3; decide
  | tickF2 e3 => revert e3; decide
  | tickNop e1 e2 e3 => revert e1 e2 e3; decide
  | _ => decide

/-- A legal word of each format is the word of an operation. -/
theorem exists_decode_of_wf {sel : Sel} (h : sel.wf = true) : ∃ i, decode sel = .ok i := by
  obtain ⟨fmt, w⟩ := sel
  cases fmt with
  | request =>
    rcases of_decide_eq_true h with hw | hw | hw
    · exact ⟨.rdblk1, by rw [show w = _ from hw]; decide⟩
    · exact ⟨.rdblk2, by rw [show w = _ from hw]; decide⟩
    · exact ⟨.rdblk3, by rw [show w = _ from hw]; decide⟩
  | sinkPort =>
    have hle : w.toNat ≤ 10 := of_decide_eq_true h
    have hall : ∀ n : Fin 11, ∃ i, decode ⟨.sinkPort, BitVec.ofNat 24 n.val⟩ = .ok i := by
      intro n; fin_cases n <;> exact ⟨_, rfl⟩
    simpa using hall ⟨w.toNat, by omega⟩
  | microStep =>
    have hle : w.toNat ≤ 6 := of_decide_eq_true h
    have hall : ∀ n : Fin 7, ∃ i, decode ⟨.microStep, BitVec.ofNat 24 n.val⟩ = .ok i := by
      intro n; fin_cases n <;> exact ⟨_, rfl⟩
    simpa using hall ⟨w.toNat, by omega⟩
  | outcome =>
    have hle : w.toNat ≤ 15 := of_decide_eq_true h
    exact ⟨_, if_pos (show w.toNat < 16 by omega)⟩

/-- Settles O4: what decodes is an encoding, and encodings are legal. -/
theorem legalSelectorsAreDecoded : Obligations.LegalSelectorsAreDecoded := fun _ =>
  ⟨exists_decode_of_wf, fun ⟨i, h⟩ => encode_of_decode h ▸ wf_encode i⟩

/-- Settles O5: the written-out words are evaluated. -/
theorem writtenOutWordsDecode : Obligations.WrittenOutWordsDecode := by
  unfold Obligations.WrittenOutWordsDecode
  decide

end Sys2Proof
end

section
/-! The control invariants R31(a), (c), (e), with those of HALT, banks and snapshot, through every step of the block. -/

namespace Sys2Proof.Machine

/-! ### A running block inside a tick -/

/-- What of the control invariants holds of a running block at every moment of a tick, between its steps too: banks,
snapshot and phase are left open. -/
structure Running (s : State) : Prop where
  run : s.run = true
  fc : s.fc.toNat < 3
  ytd : s.ytd = 0
  no_halt : s.trace.count .halt = 0
  no_sel : s.opSel = none

theorem ControlInv.running {s : State} (h : ControlInv s) (hr : s.run = true) : Running s where
  run := hr
  fc := by
    have hne : s.fc ≠ 3 := fun hfc => Bool.false_ne_true ((h.run_fc.2 hfc).symm.trans hr)
    have hlt := s.fc.isLt
    have hne' : s.fc.toNat ≠ 3 := fun heq => hne (BitVec.eq_of_toNat_eq heq)
    omega
  ytd := h.ytd_zero
  no_halt := h.halt_once.trans (by rw [hr]; rfl)
  no_sel := h.no_sel

/-- A running block between two steps, with the banks of its phase and no snapshot. -/
theorem Running.controlInv {s : State} (h : Running s) (hb : (s.b1w, s.b2w, s.b3w) = writtenBy s.ph)
    (hd : s.draft = Draft.empty) : ControlInv s where
  run_fc := iff_of_false (by rw [h.run]; decide) fun hfc => absurd h.fc (by rw [hfc]; decide)
  halted_idle hr := absurd (h.run.symm.trans hr) (by decide)
  ytd_zero := h.ytd
  banks := hb
  no_draft := hd
  halt_once := by rw [h.no_halt, h.run]; rfl
  no_sel := h.no_sel

theorem Running.request {s : State} (h : Running s) (a : Addr) (n : Count) : Running (s.emit (.req a n)) :=
  { h with no_halt := by simpa using h.no_halt }

theorem Running.dropEvent {s : State} (h : Running s) : Running s.dropEvent := { h with }

theorem Running.setPh {s : State} (h : Running s) (p : Phase) : Running (s.setPh p) := { h with }

theorem Running.loadB1 {s : State} (h : Running s) (ws : Vector Word 18) : Running (s.loadB1 ws) := { h with }

theorem Running.loadB2 {s : State} (h : Running s) (ws : Vector Word 3) : Running (s.loadB2 ws) := { h with }

theorem Running.loadB3 {s : State} (h : Running s) (ws : Vector Word 20) : Running (s.loadB3 ws) := { h with }

theorem Running.beginTick {s : State} (h : Running s) : Running (beginTick s) :=
  Running.request (s := s.dropEvent.discard) { h with } _ _

/-- Read 1 answered well, read 2 issued. -/
theorem Running.read2 {s : State} (h : Running s) (w1 : Vector Word 18) :
    Running ((Machine.beginTick s).loadB1 w1).request2 := (h.beginTick.loadB1 w1).request _ _

/-- Read 2 answered well too, read 3 issued. -/
theorem Running.read3 {s : State} (h : Running s) (w1 : Vector Word 18) (w2 : Vector Word 3) :
    Running ((((Machine.beginTick s).loadB1 w1).request2).loadB2 w2).request3 := ((h.read2 w1).loadB2 w2).request _ _

/-! ### The two ends of a tick -/

/-- R146, R147: the count reaches 3 exactly when the third failure clears `RUN` and emits HALT. -/
theorem Running.transportError {s : State} (h : Running s) : ControlInv (transportError s) := by
  rw [transportError_eq s h.run h.fc]
  have hlt := h.fc
  by_cases h3 : s.fc.toNat + 1 = 3
  · have hthird : thirdFailure s.fc = true := decide_eq_true (by omega)
    have hfc : s.fc + 1 = 3 := by bv_omega
    exact {
      run_fc := iff_of_true (by simp [failedTick, hthird]) hfc
      halted_idle := fun _ => rfl
      ytd_zero := h.ytd
      banks := rfl
      no_draft := rfl
      halt_once := by simp [failedTick, hthird, h.no_halt]
      no_sel := h.no_sel }
  · have hthird : thirdFailure s.fc = false := decide_eq_false (by omega)
    have hfc : (s.fc + 1).toNat < 3 := by bv_omega
    refine Running.controlInv ⟨?_, hfc, h.ytd, ?_, h.no_sel⟩ rfl rfl
    · simp [failedTick, hthird]
    · simp [failedTick, hthird, h.no_halt]

/-- R148, R151: a success clears the count and leaves `RUN`. -/
theorem Running.succeed {s t : State} (h : Running s) (ht : succeed s = .next t) : ControlInv t := by
  obtain ⟨h1, h2, h3⟩ := written_of_succeed ht
  rw [succeed_eq s h1 h2 h3] at ht
  cases ht
  refine Running.controlInv ⟨h.run, Nat.zero_lt_succ 2, h.ytd, ?_, h.no_sel⟩ rfl rfl
  simpa using h.no_halt

/-! ### Reset -/

/-- The marks of the written banks, one by one. -/
theorem ControlInv.marks {s : State} (h : ControlInv s) :
    s.b1w = (writtenBy s.ph).1 ∧ s.b2w = (writtenBy s.ph).2.1 ∧ s.b3w = (writtenBy s.ph).2.2 := by
  rw [← h.banks]
  exact ⟨rfl, rfl, rfl⟩

theorem controlInv_applyReset (s : State) : ControlInv (applyReset s) :=
  Running.controlInv ⟨rfl, Nat.zero_lt_succ 2, rfl, rfl, rfl⟩ rfl rfl

/-- Settles O46: inside a tick the block is running, every read leaves it so, and the two ends of a tick restore the
invariants. -/
theorem everyStepKeepsControlInv : Obligations.EveryStepKeepsControlInv := by
  intro s t h hstep
  cases quietStep_of_step h.no_sel hstep with
  | reset _ => exact controlInv_applyReset s
  | taken => exact { h with }
  | rest _ => exact h
  | issue1 hr _ => exact ((h.running hr).beginTick.setPh .w1).controlInv rfl rfl
  | issue2 ws hr hp =>
    obtain ⟨-, h2, h3⟩ := h.marks
    rw [hp] at h2 h3
    exact (((h.running hr).dropEvent.loadB1 ws).request _ _).setPh .w2 |>.controlInv
      (by simp [h2, h3, writtenBy]) h.no_draft
  | issue3 ws hr hp =>
    obtain ⟨h1, -, h3⟩ := h.marks
    rw [hp] at h1 h3
    exact (((h.running hr).dropEvent.loadB2 ws).request _ _).setPh .w3 |>.controlInv
      (by simp [h1, h3, writtenBy]) h.no_draft
  | close ws _ hr _ ht => exact ((h.running hr).dropEvent.loadB3 ws).succeed ht
  | fail hr _ => exact (h.running hr).dropEvent.transportError
  | lineOk w1 w2 w3 _ hr _ ht => exact (((h.running hr).read3 w1 w2).loadB3 w3).succeed ht
  | lineF1 hr _ => exact (h.running hr).beginTick.transportError
  | lineF2 w1 hr _ => exact ((h.running hr).read2 w1).transportError
  | lineF3 w1 w2 hr _ => exact ((h.running hr).read3 w1 w2).transportError

end Sys2Proof.Machine
end

section
/-! The order of the trace, R66 to R69, through every step of the block. Only the last event of a trace decides what may
come next, so an invariant on the trace and its last event goes from one event of a tick to the next. -/

namespace Sys2Proof.Machine

/-! ### Ordered traces -/

theorem orderOk_append_singleton (prev : Option Event) (tr : List Event) (e : Event) :
    orderOk prev (tr ++ [e]) = (orderOk prev tr && mayFollow (tr.getLast?.or prev) e) := by
  induction tr generalizing prev with
  | nil => simp [orderOk]
  | cons a tr ih =>
    have hlast : (a :: tr).getLast?.or prev = tr.getLast?.or (some a) := by
      rw [List.getLast?_cons]
      cases tr.getLast? <;> rfl
    simp only [List.cons_append, orderOk, ih, hlast, Bool.and_assoc]

/-- The trace is in order and `e` is its last event. -/
structure EndsWith (tr : List Event) (e : Event) : Prop where
  ordered : orderOk none tr = true
  last : tr.getLast? = some e

/-- One more event, which the last one allows. -/
theorem EndsWith.append {tr : List Event} {e e' : Event} (h : EndsWith tr e) (hm : mayFollow (some e) e' = true) :
    EndsWith (tr ++ [e']) e' where
  ordered := by rw [orderOk_append_singleton, h.ordered, h.last, Option.some_or, hm]; rfl
  last := List.getLast?_concat

/-- R66: a tick begins with read 1, after anything but HALT. -/
theorem endsWith_req1 {tr : List Event} (h : orderOk none tr = true) (hh : tr.count .halt = 0) :
    EndsWith (tr ++ [req1]) req1 where
  ordered := by
    have hlast : tr.getLast? ≠ some .halt := fun hl => List.count_eq_zero.1 hh (List.mem_of_getLast? hl)
    rw [orderOk_append_singleton, h, Option.or_none, Bool.true_and]
    simp [mayFollow, hlast]
  last := List.getLast?_concat

/-- The last event of a trace in which a read was just issued. -/
inductive IsRequest : Event → Prop
  | req1 : IsRequest req1
  | req2 : IsRequest req2
  | req3 : IsRequest req3

/-- R69: HALT may follow each of the reads. -/
theorem IsRequest.mayFollow_halt {e : Event} (h : IsRequest e) : mayFollow (some e) .halt = true := by
  cases h <;> decide

/-- R68: a publish may follow read 3. -/
theorem mayFollow_pub (b : Bundle) : mayFollow (some req3) (.pub b) = true := by
  simp [mayFollow, req1, req2, req3]

/-! ### The events of a tick -/

section
variable {s t : State}

/-- Between ticks, and after termination, only the trace counts. -/
theorem orderInv_of_idle (hp : s.ph = .idle) (h : orderOk none s.trace = true) : OrderInv s :=
  ⟨h, by simp [hp], by simp [hp], by simp [hp]⟩

theorem OrderInv.beginTick (h : OrderInv s) (hr : Running s) : EndsWith (beginTick s).trace req1 :=
  endsWith_req1 h.ordered hr.no_halt

/-- Read 1 answered well, read 2 issued. -/
theorem OrderInv.read2 (h : OrderInv s) (hr : Running s) (w1 : Vector Word 18) :
    EndsWith ((Machine.beginTick s).loadB1 w1).request2.trace req2 := (h.beginTick hr).append (by decide)

/-- Read 2 answered well too, read 3 issued. -/
theorem OrderInv.read3 (h : OrderInv s) (hr : Running s) (w1 : Vector Word 18) (w2 : Vector Word 3) :
    EndsWith ((((Machine.beginTick s).loadB1 w1).request2).loadB2 w2).request3.trace req3 :=
  (h.read2 hr w1).append (by decide)

/-- R178: a failed read emits nothing, or HALT. -/
theorem EndsWith.transportError {e : Event} (h : EndsWith s.trace e) (he : IsRequest e) (hr : Running s) :
    OrderInv (transportError s) := by
  rw [transportError_eq s hr.run hr.fc]
  refine orderInv_of_idle rfl ?_
  cases hthird : thirdFailure s.fc with
  | true => simpa [failedTick, hthird] using (h.append he.mayFollow_halt).ordered
  | false => simpa [failedTick, hthird] using h.ordered

/-- R150, R151: a success emits one publish. -/
theorem EndsWith.succeed (h : EndsWith s.trace req3) (ht : succeed s = .next t) : OrderInv t := by
  obtain ⟨h1, h2, h3⟩ := written_of_succeed ht
  rw [succeed_eq s h1 h2 h3] at ht
  cases ht
  exact orderInv_of_idle rfl (h.append (mayFollow_pub _)).ordered

/-- R39(b): while a read is awaited the last event is its request. -/
theorem OrderInv.awaiting (h : OrderInv s) (hp : s.ph ≠ .idle) : ∃ e, IsRequest e ∧ EndsWith s.trace e := by
  cases hph : s.ph with
  | idle => exact absurd hph hp
  | w1 => exact ⟨_, .req1, h.ordered, h.last_w1 hph⟩
  | w2 => exact ⟨_, .req2, h.ordered, h.last_w2 hph⟩
  | w3 => exact ⟨_, .req3, h.ordered, h.last_w3 hph⟩

end

/-- Settles O50, event by event of a tick: each read allows the next one, the third a publish, and each a HALT. -/
theorem everyStepKeepsTraceOrder : Obligations.EveryStepKeepsTraceOrder := by
  intro s t hc h hstep
  cases quietStep_of_step hc.no_sel hstep with
  | reset _ => exact orderInv_of_idle rfl rfl
  | taken => exact { h with }
  | rest _ => exact h
  | issue1 hr _ =>
    have hend := h.beginTick (hc.running hr)
    exact ⟨hend.ordered, fun _ => hend.last, nofun, nofun⟩
  | issue2 _ _ hp =>
    have hend : EndsWith (s.trace ++ [req2]) req2 := EndsWith.append ⟨h.ordered, h.last_w1 hp⟩ (by decide)
    exact ⟨hend.ordered, nofun, fun _ => hend.last, nofun⟩
  | issue3 _ _ hp =>
    have hend : EndsWith (s.trace ++ [req3]) req3 := EndsWith.append ⟨h.ordered, h.last_w2 hp⟩ (by decide)
    exact ⟨hend.ordered, nofun, nofun, fun _ => hend.last⟩
  | close ws _ _ hp ht =>
    exact EndsWith.succeed (s := s.dropEvent.loadB3 ws) ⟨h.ordered, h.last_w3 hp⟩ ht
  | fail hr hp =>
    obtain ⟨e, he, hend⟩ := h.awaiting hp
    exact EndsWith.transportError (s := s.dropEvent) hend he (hc.running hr).dropEvent
  | lineOk w1 w2 w3 _ hr _ ht =>
    exact EndsWith.succeed (s := (((((beginTick s).loadB1 w1).request2).loadB2 w2).request3).loadB3 w3)
      (h.read3 (hc.running hr) w1 w2) ht
  | lineF1 hr _ => exact (h.beginTick (hc.running hr)).transportError .req1 (hc.running hr).beginTick
  | lineF2 w1 hr _ => exact (h.read2 (hc.running hr) w1).transportError .req2 ((hc.running hr).read2 w1)
  | lineF3 w1 w2 hr _ => exact (h.read3 (hc.running hr) w1 w2).transportError .req3 ((hc.running hr).read3 w1 w2)

end Sys2Proof.Machine
end

section
/-! What the block's own steps publish, and MAXP with it: R31(d), R149 to R151. -/

namespace Sys2Proof.Machine

/-! ### One publish, or none -/

/-- From `s` to `t` the bundle `⟨p, m⟩` was published: `p` was decoded from some banks, and `m` is MAXP, raised to the
yieldPower of `p` if that is greater (R149, R150). -/
structure Publishes (s t : State) (p : Snapshot) (m : Scaled 32) : Prop where
  decoded : ∃ b1 b2 b3, p = decodeBanks Config.active b1 b2 b3
  peak : m = if newPeak p.yieldPower s.maxp then p.yieldPower else s.maxp
  pubs : pubsOf t.trace = pubsOf s.trace ++ [⟨p, m⟩]
  maxp : t.maxp = m

/-- From `s` to `t` nothing was published and MAXP is what it was. -/
structure PublishesNothing (s t : State) : Prop where
  pubs : pubsOf t.trace = pubsOf s.trace
  maxp : t.maxp = s.maxp

theorem MidTick.publishesNothing {s u : State} (h : MidTick s u) : PublishesNothing s u := ⟨h.pubs, h.maxp⟩

theorem MidTick.fails {s u : State} (h : MidTick s u) : PublishesNothing s (transportError u) :=
  ⟨(pubsOf_transportError u).trans h.pubs, (transportError_maxp u).trans h.maxp⟩

theorem MidTick.succeeds {s u t : State} (h : MidTick s u) (ht : succeed u = .next t) : ∃ p m, Publishes s t p m := by
  obtain ⟨h1, h2, h3⟩ := written_of_succeed ht
  rw [succeed_eq u h1 h2 h3, h.maxp] at ht
  cases ht
  refine ⟨_, _, ⟨u.b1, u.b2, u.b3, rfl⟩, rfl, ?_, rfl⟩
  rw [pubsOf_append, h.pubs]
  rfl

/-- A small step takes one event. -/
theorem midTick_dropEvent (s : State) : MidTick s s.dropEvent := ⟨rfl, rfl, rfl, rfl, rfl, rfl, rfl, rfl⟩

/-- R156: a step of the block itself is a reset, or publishes nothing, or publishes one bundle. -/
theorem QuietStep.publish_cases {s t : State} (h : QuietStep s t) : (select s = .reset ∧ t = applyReset s) ∨
    PublishesNothing s t ∨ ∃ p m, Publishes s t p m := by
  cases h with
  | reset hr => exact .inl ⟨hr, rfl⟩
  | taken | rest _ => exact .inr (.inl ⟨rfl, rfl⟩)
  | issue1 _ _ =>
    have hn := (midTick_beginTick s).publishesNothing
    exact .inr (.inl ⟨hn.pubs, hn.maxp⟩)
  | issue2 ws _ _ =>
    have hn := (((midTick_dropEvent s).loadB1 ws).request blk2Base 3#8).publishesNothing
    exact .inr (.inl ⟨hn.pubs, hn.maxp⟩)
  | issue3 ws _ _ =>
    have hn := (((midTick_dropEvent s).loadB2 ws).request blk3Base 20#8).publishesNothing
    exact .inr (.inl ⟨hn.pubs, hn.maxp⟩)
  | close ws _ _ _ ht => exact .inr (.inr (((midTick_dropEvent s).loadB3 ws).succeeds ht))
  | fail _ _ => exact .inr (.inl (midTick_dropEvent s).fails)
  | lineOk w1 w2 w3 _ _ _ ht => exact .inr (.inr (((midTick_read3 s w1 w2).loadB3 w3).succeeds ht))
  | lineF1 _ _ => exact .inr (.inl (midTick_beginTick s).fails)
  | lineF2 w1 _ _ => exact .inr (.inl (midTick_read2 s w1).fails)
  | lineF3 w1 w2 _ _ => exact .inr (.inl (midTick_read3 s w1 w2).fails)

/-! ### MAXP is the largest published yieldPower (R31(d)) -/

/-- The comparison of R149 as a maximum, the other side: MAXP is never below the yieldPower it was compared with. -/
theorem yieldPower_le_ite_newPeak (yp m : BitVec 32) : yp.toNat ≤ (if newPeak yp m then yp else m).toNat := by
  split
  · exact Nat.le_refl _
  · exact Nat.not_lt.1 fun hlt => ‹¬newPeak yp m = true› ((newPeak_iff yp m).2 hlt)

theorem Publishes.yieldPower_le {s t : State} {p : Snapshot} {m : Scaled 32} (h : Publishes s t p m) :
    p.yieldPower.toNat ≤ m.toNat := by
  rw [h.peak]
  exact yieldPower_le_ite_newPeak _ _

theorem Publishes.maxp_le {s t : State} {p : Snapshot} {m : Scaled 32} (h : Publishes s t p m) :
    s.maxp.toNat ≤ m.toNat := by
  rw [h.peak]
  exact le_ite_newPeak _ _

theorem peakInv_applyReset (s : State) : PeakInv (applyReset s) := ⟨nofun, .inl rfl⟩

theorem PublishesNothing.peakInv {s t : State} (h : PublishesNothing s t) (hs : PeakInv s) : PeakInv t := by
  constructor
  · rw [h.pubs, h.maxp]; exact hs.bound
  · rw [h.pubs, h.maxp]; exact hs.attained

/-- The new peak is attained by the bundle just published if it was raised, and else by the one that attained it. -/
theorem Publishes.peakInv {s t : State} {p : Snapshot} {m : Scaled 32} (h : Publishes s t p m) (hs : PeakInv s) :
    PeakInv t := by
  constructor
  · intro b hb
    rw [h.pubs, List.mem_append, List.mem_singleton] at hb
    rw [h.maxp]
    rcases hb with hold | rfl
    · exact (hs.bound b hold).trans h.maxp_le
    · exact h.yieldPower_le
  · rw [h.maxp, h.pubs]
    by_cases hnew : newPeak p.yieldPower s.maxp = true
    · have hm : m = p.yieldPower := h.peak.trans (if_pos hnew)
      exact .inr ⟨⟨p, m⟩, List.mem_append_right _ (List.mem_singleton_self _), hm.symm⟩
    · have hm : m = s.maxp := h.peak.trans (if_neg hnew)
      rw [hm]
      exact hs.attained.imp_right fun ⟨b, hb, heq⟩ => ⟨b, List.mem_append_left _ hb, heq⟩

/-- Settles O48: reset publishes nothing any more, and a publish raises MAXP to its yieldPower if that is greater. -/
theorem maxpIsLargestPublishedPower : Obligations.MaxpIsLargestPublishedPower := by
  intro s t hs hinv hstep
  rcases (quietStep_of_step hs hstep).publish_cases with ⟨-, rfl⟩ | hnothing | ⟨_, _, hpub⟩
  · exact peakInv_applyReset s
  · exact hnothing.peakInv hinv
  · exact hpub.peakInv hinv

/-! ### Every published bundle is sane -/

theorem code_toNat_le (o : OpState) : o.code.toNat ≤ 4 := by
  cases o <;> decide

/-- R115: the floor at 1. -/
theorem one_le_pvVoltage (c : Config) (b1 : Vector Word 18) (b2 : Vector Word 3) (b3 : Vector Word 20) :
    1 ≤ (decodeBanks c b1 b2 b3).pvVoltage.toNat := by
  have hpv : (decodeBanks c b1 b2 b3).pvVoltage = clampWord b1[0] := clampBank_getElem_zero b1
  rw [hpv, clampWord_toNat]
  exact Nat.le_max_right _ _

/-- Settles O53: a published snapshot was decoded, and MAXP was raised to its yieldPower before the publish. -/
theorem everyPublishIsSane : Obligations.EveryPublishIsSane := by
  intro s t hs hstep
  rcases (quietStep_of_step hs hstep).publish_cases with ⟨hr, rfl⟩ | hnothing | ⟨p, m, hpub⟩
  · exact .inl ⟨hr, rfl⟩
  · exact .inr (.inl hnothing.pubs)
  · have hyp := hpub.yieldPower_le
    obtain ⟨b1, b2, b3, rfl⟩ := hpub.decoded
    have hpv := one_le_pvVoltage Config.active b1 b2 b3
    exact .inr (.inr ⟨_, _, _, _, _, _, hpub.pubs, rfl, rfl, rfl, rfl, rfl, hyp, hpv, code_toNat_le _,
      BitVec.isLt _, rfl, rfl, hyp, hpv, rfl, rfl⟩)

end Sys2Proof.Machine
end

section
/-! What an operation can do when it answers next, said once for all 26, so also for one that a presented selector word
runs (R97). -/

namespace Sys2Proof.Machine

/-- `OpStep s i t`: one of the ways the operation `i` can answer the next state `t` in `s`. -/
inductive OpStep (s : State) : Instr → State → Prop where
  /-- RDBLK1 issues read 1. -/
  | strobe : OpStep s .rdblk1 ((beginTick s).setPh .w1)
  /-- RDBLK1 in a terminated block. -/
  | strobeIgnored : OpStep s .rdblk1 s.dropEvent
  /-- A good answer 1 fills bank 1 and issues read 2. -/
  | good1 (ws : Vector Word 18) : OpStep s .rdblk2 (((s.dropEvent.loadB1 ws).request2).setPh .w2)
  /-- A bad answer 1. -/
  | bad1 : OpStep s .rdblk2 (transportError s.dropEvent)
  /-- A good answer 2 fills bank 2 and issues read 3. -/
  | good2 (ws : Vector Word 3) : OpStep s .rdblk3 (((s.dropEvent.loadB2 ws).request3).setPh .w3)
  /-- A bad answer 2. -/
  | bad2 : OpStep s .rdblk3 (transportError s.dropEvent)
  /-- A field operation writes the draft. -/
  | field (i : Instr) (d : Draft) : i ∈ fieldOps → OpStep s i (s.setDraft d)
  /-- OUT.MAXP writes the draft. -/
  | outMaxp : OpStep s .outMaxp (outMaxpOp s)
  | clamp : OpStep s .clamp s.clampB1
  /-- DECODE clamps and writes the draft. -/
  | decode (d : Draft) : OpStep s .decode (s.clampB1.setDraft d)
  /-- PEAK finds a greater yieldPower. -/
  | peakRaised (yp : Scaled 32) : OpStep s .peak (s.setMaxp yp)
  /-- PEAK finds none. -/
  | peakKept : OpStep s .peak s
  | pub (b : Bundle) : OpStep s .pub (((outMaxpOp s).emit (.pub b)).setSnk b)
  | fcclr : OpStep s .fcclr (fcClear s)
  | fcinc : OpStep s .fcinc (fcIncrement s)
  | haltchk : OpStep s .haltchk (haltCheck s)
  | tickOk (w1 : Vector Word 18) (w2 : Vector Word 3) (w3 : Vector Word 20) (t : State) :
      succeed ((((((beginTick s).loadB1 w1).request2).loadB2 w2).request3).loadB3 w3) = .next t → OpStep s .tickOk t
  | tickF1 (e2 e3 : Bool) : OpStep s (.tickF1 e2 e3) (transportError (beginTick s))
  | tickF2 (w1 : Vector Word 18) (e3 : Bool) :
      OpStep s (.tickF2 e3) (transportError (((beginTick s).loadB1 w1).request2))
  | tickF3 (w1 : Vector Word 18) (w2 : Vector Word 3) :
      OpStep s .tickF3 (transportError (((((beginTick s).loadB1 w1).request2).loadB2 w2).request3))
  | tickNop (e1 e2 e3 : Bool) : OpStep s (.tickNop e1 e2 e3) s.dropEvent

section
variable {s t : State}

theorem opStep_of_withBank1 {i : Instr} {g : Vector Word 18 → Draft} (hi : i ∈ fieldOps)
    (h : withBank1 s (fun b1 => .next (s.setDraft (g b1))) = .next t) : OpStep s i t := by
  obtain ⟨-, h⟩ := withBank1_next h
  cases h
  exact .field i _ hi

theorem opStep_of_rdblk1 (h : exec .rdblk1 s = .next t) : OpStep s .rdblk1 t := by
  simp only [exec, execRdblk1] at h
  split at h
  · split at h
    · cases h; exact .strobeIgnored
    · split at h
      · cases h; exact .strobe
      · cases h
  · cases h

theorem opStep_of_peak (h : exec .peak s = .next t) : OpStep s .peak t := by
  obtain ⟨yp, -, rfl⟩ := peakOp_next h
  split
  · exact .peakRaised yp
  · exact .peakKept

theorem opStep_of_tickOk (h : exec .tickOk s = .next t) : OpStep s .tickOk t := by
  obtain ⟨_, _, _, _, -, -, -, hf⟩ := onTickLine_next h
  split at hf
  next => exact .tickOk _ _ _ t hf
  next => cases hf

theorem opStep_of_tickF1 {e2 e3 : Bool} (h : exec (.tickF1 e2 e3) s = .next t) : OpStep s (.tickF1 e2 e3) t := by
  obtain ⟨_, _, _, _, -, -, -, hf⟩ := onTickLine_next h
  split at hf <;> cases hf
  exact .tickF1 e2 e3

theorem opStep_of_tickF2 {e3 : Bool} (h : exec (.tickF2 e3) s = .next t) : OpStep s (.tickF2 e3) t := by
  obtain ⟨_, _, _, _, -, -, -, hf⟩ := onTickLine_next h
  split at hf
  next w1 _ =>
    split at hf <;> cases hf
    exact .tickF2 w1 e3
  next => cases hf

theorem opStep_of_tickF3 (h : exec .tickF3 s = .next t) : OpStep s .tickF3 t := by
  obtain ⟨_, _, _, _, -, -, -, hf⟩ := onTickLine_next h
  split at hf
  next w1 w2 _ _ =>
    split at hf <;> cases hf
    exact .tickF3 w1 w2
  next => cases hf

/-- Every answer of an operation is one of these. -/
theorem opStep_of_exec {i : Instr} (h : exec i s = .next t) : OpStep s i t := by
  cases i with
  | rdblk1 => exact opStep_of_rdblk1 h
  | rdblk2 =>
    rw [exec, execRdblk2] at h
    obtain ⟨-, _, _, -, ⟨ws, -, hg⟩ | ⟨-, rfl⟩⟩ := onAnswer_next h
    · cases hg; exact .good1 ws
    · exact .bad1
  | rdblk3 =>
    rw [exec, execRdblk3] at h
    obtain ⟨-, _, _, -, ⟨ws, -, hg⟩ | ⟨-, rfl⟩⟩ := onAnswer_next h
    · cases hg; exact .good2 ws
    · exact .bad2
  | decDcv | decDci | decDct | decPvv | decYp | decLdi =>
    simp only [exec, execDecDcv, execDecDci, execDecDct, execDecPvv, execDecYp, execDecLdi] at h
    exact opStep_of_withBank1 (by decide) h
  | decSt =>
    rw [exec, execDecSt] at h
    obtain ⟨-, h⟩ := withBank2_next h
    cases h; exact .field _ _ (by decide)
  | decDy =>
    rw [exec, execDecDy] at h
    obtain ⟨-, h⟩ := withBank3_next h
    cases h; exact .field _ _ (by decide)
  | decLds | decErr => cases h; exact .field _ _ (by decide)
  | outMaxp => cases h; exact .outMaxp
  | clamp => obtain ⟨-, rfl⟩ := clampOp_next h; exact .clamp
  | decode => obtain ⟨-, rfl⟩ := decodeOp_next h; exact .decode _
  | peak => exact opStep_of_peak h
  | pub => obtain ⟨b, -, rfl⟩ := publishOp_next h; exact .pub b
  | fcclr => cases h; exact .fcclr
  | fcinc => cases h; exact .fcinc
  | haltchk => cases h; exact .haltchk
  | tickOk => exact opStep_of_tickOk h
  | tickF1 e2 e3 => exact opStep_of_tickF1 h
  | tickF2 e3 => exact opStep_of_tickF2 h
  | tickF3 => exact opStep_of_tickF3 h
  | tickNop e1 e2 e3 => rw [tickNop_eq_dropEvent h]; exact .tickNop e1 e2 e3

end

end Sys2Proof.Machine
end

section
/-! The trace only grows, by requests of the three windows (R51, R83), publishes and HALT, and the sink follows the
publishes (R34), through every operation and every step but reset. -/

namespace Sys2Proof.Machine

/-! ### What a piece of the trace does to the sink -/

/-- What the sink holds, if anything. -/
def State.held (s : State) : Option Bundle := if s.snkHeld then some s.snk else none

theorem sinkInv_iff (s : State) : SinkInv s ↔ (pubsOf s.trace).getLast? = s.held := Iff.rfl

/-- A request, if it is one, of a window of R51. -/
def InWindows (e : Event) : Prop := ∀ a n, e = .req a n →
  (a = 0x3100#16 ∧ n = 18#8) ∨ (a = 0x3200#16 ∧ n = 3#8) ∨ (a = 0x3300#16 ∧ n = 20#8)

/-- From `s` to `t` the trace grew by events within the three windows, and the sink took the last bundle among them. -/
def Extends (s t : State) : Prop := ∃ evs, t.trace = s.trace ++ evs ∧ (∀ e ∈ evs, InWindows e) ∧
  t.held = (pubsOf evs).getLast?.or s.held

section
variable {s t u : State}

theorem extends_of_frame (htrace : t.trace = s.trace) (hheld : t.held = s.held) : Extends s t :=
  ⟨[], by rw [htrace, List.append_nil], nofun, hheld⟩

theorem Extends.refl (s : State) : Extends s s := extends_of_frame rfl rfl

theorem Extends.trans (h : Extends s t) (h' : Extends t u) : Extends s u := by
  obtain ⟨evs, htrace, hwin, hheld⟩ := h
  obtain ⟨evs', htrace', hwin', hheld'⟩ := h'
  refine ⟨evs ++ evs', by rw [htrace', htrace, List.append_assoc], ?_, ?_⟩
  · exact fun e he => (List.mem_append.1 he).elim (hwin e) (hwin' e)
  · rw [hheld', hheld, pubsOf_append, List.getLast?_append, Option.or_assoc]

/-- One event that is no publish. -/
theorem extends_of_event {e : Event} (htrace : t.trace = s.trace ++ [e]) (hheld : t.held = s.held)
    (hwin : InWindows e) (hpub : pubsOf [e] = []) : Extends s t :=
  ⟨[e], htrace, by simpa using hwin, by rw [hpub]; exact hheld⟩

theorem extends_request1 (s : State) : Extends s s.request1 :=
  extends_of_event rfl rfl (fun _ _ h => by cases h; exact .inl ⟨rfl, rfl⟩) rfl

theorem extends_request2 (s : State) : Extends s s.request2 :=
  extends_of_event rfl rfl (fun _ _ h => by cases h; exact .inr (.inl ⟨rfl, rfl⟩)) rfl

theorem extends_request3 (s : State) : Extends s s.request3 :=
  extends_of_event rfl rfl (fun _ _ h => by cases h; exact .inr (.inr ⟨rfl, rfl⟩)) rfl

/-- R34, R150: a publish puts the sink at its bundle. -/
theorem extends_of_publish {b : Bundle} (htrace : t.trace = s.trace ++ [.pub b]) (hheld : t.held = some b) :
    Extends s t :=
  ⟨[.pub b], htrace, by simp [InWindows], hheld⟩

/-! ### The shared operations -/

theorem extends_fcIncrement (s : State) : Extends s (fcIncrement s) := by
  rcases fcIncrement_cases s with ⟨-, h⟩ | ⟨-, h⟩ <;> rw [h] <;> exact extends_of_frame rfl rfl

theorem extends_haltCheck (s : State) : Extends s (haltCheck s) := by
  rcases haltCheck_cases s with ⟨-, h⟩ | ⟨-, h⟩ <;> rw [h]
  · exact extends_of_event (e := .halt) rfl rfl nofun rfl
  · exact .refl s

theorem Extends.transportError (h : Extends s u) : Extends s (transportError u) :=
  h.trans ((extends_fcIncrement u).trans ((extends_haltCheck _).trans (extends_of_frame rfl rfl)))

theorem Extends.succeed (h : Extends s u) (ht : succeed u = .next t) : Extends s t := by
  obtain ⟨h1, h2, h3⟩ := written_of_succeed ht
  rw [succeed_eq u h1 h2 h3] at ht
  cases ht
  exact h.trans (extends_of_publish rfl rfl)

theorem extends_dropEvent (s : State) : Extends s s.dropEvent := extends_of_frame rfl rfl

theorem Extends.setPh (h : Extends s u) (p : Phase) : Extends s (u.setPh p) := h.trans (extends_of_frame rfl rfl)

theorem Extends.read2 (h : Extends s u) (w1 : Vector Word 18) : Extends s (u.loadB1 w1).request2 :=
  h.trans ((extends_of_frame rfl rfl).trans (extends_request2 (u.loadB1 w1)))

theorem Extends.read3 (h : Extends s u) (w2 : Vector Word 3) : Extends s (u.loadB2 w2).request3 :=
  h.trans ((extends_of_frame rfl rfl).trans (extends_request3 (u.loadB2 w2)))

theorem Extends.loadB3 (h : Extends s u) (w3 : Vector Word 20) : Extends s (u.loadB3 w3) :=
  h.trans (extends_of_frame rfl rfl)

theorem extends_beginTick (s : State) : Extends s (beginTick s) :=
  (extends_of_frame rfl rfl).trans (extends_request1 s.dropEvent.discard)

/-! ### Every operation and every step -/

theorem OpStep.extends {i : Instr} (h : OpStep s i t) : Extends s t := by
  cases h with
  | strobe => exact (extends_beginTick s).setPh .w1
  | strobeIgnored | tickNop => exact extends_dropEvent s
  | good1 ws => exact ((extends_dropEvent s).read2 ws).setPh .w2
  | good2 ws => exact ((extends_dropEvent s).read3 ws).setPh .w3
  | bad1 | bad2 => exact (extends_dropEvent s).transportError
  | field | outMaxp | clamp | decode | peakRaised | peakKept | fcclr => exact extends_of_frame rfl rfl
  | pub b => exact extends_of_publish rfl rfl
  | fcinc => exact extends_fcIncrement s
  | haltchk => exact extends_haltCheck s
  | tickOk w1 w2 w3 _ ht => exact ((((extends_beginTick s).read2 w1).read3 w2).loadB3 w3).succeed ht
  | tickF1 => exact (extends_beginTick s).transportError
  | tickF2 w1 => exact ((extends_beginTick s).read2 w1).transportError
  | tickF3 w1 w2 => exact (((extends_beginTick s).read2 w1).read3 w2).transportError

theorem extends_closeTick (h : closeTick s = .next t) : Extends s t := by
  obtain ⟨-, _, _, -, ⟨ws, -, hg⟩ | ⟨-, rfl⟩⟩ := onAnswer_next h
  · exact ((extends_dropEvent s).loadB3 ws).succeed hg
  · exact (extends_dropEvent s).transportError

/-- A step is a reset or extends the trace, whatever selector word is presented. -/
theorem step_extends (h : step s = .next t) : (select s = .reset ∧ t = applyReset s) ∨ Extends s t := by
  rcases step_cases h with hreset | ⟨_, _, -, -, hop⟩ | ⟨-, hclose⟩ | ⟨-, rfl⟩ | ⟨-, rfl⟩
  · exact .inl hreset
  · exact .inr ((extends_of_frame rfl rfl).trans (opStep_of_exec hop).extends)
  · exact .inr (extends_closeTick hclose)
  · exact .inr (extends_of_frame rfl rfl)
  · exact .inr (.refl _)

end

/-- Settles O54: the only requests of a step are those of the three reads. -/
theorem onlyTheThreeWindowsAreRead : Obligations.OnlyTheThreeWindowsAreRead := by
  intro s t h
  rcases step_extends h with ⟨hr, rfl⟩ | ⟨evs, htrace, hwin, -⟩
  · exact .inl ⟨hr, rfl⟩
  · exact .inr ⟨evs, htrace, fun a n hmem => hwin _ hmem a n rfl⟩

/-- Settles O49: reset empties trace and sink together, and any other step gives the sink the last bundle it appends. -/
theorem sinkHoldsLastBundle : Obligations.SinkHoldsLastBundle := by
  intro s t hinv h
  rcases step_extends h with ⟨-, rfl⟩ | ⟨evs, htrace, -, hheld⟩
  · rfl
  · rw [sinkInv_iff] at hinv ⊢
    rw [htrace, pubsOf_append, List.getLast?_append, hinv, hheld]

end Sys2Proof.Machine
end

section
/-! `YTD` has no writer, and each bank only its own (R23, R30, decision D13). -/

namespace Sys2Proof.Machine

/-! ### The shared operations -/

theorem transportError_ytd (s : State) : (transportError s).ytd = s.ytd := by
  obtain ⟨_, _, _, _, -, h⟩ := transportError_writes s
  rw [h]; rfl

theorem transportError_b1 (s : State) : (transportError s).b1 = s.b1 := by
  obtain ⟨_, _, _, _, -, h⟩ := transportError_writes s
  rw [h]; rfl

theorem transportError_b2 (s : State) : (transportError s).b2 = s.b2 := by
  obtain ⟨_, _, _, _, -, h⟩ := transportError_writes s
  rw [h]; rfl

theorem transportError_b3 (s : State) : (transportError s).b3 = s.b3 := by
  obtain ⟨_, _, _, _, -, h⟩ := transportError_writes s
  rw [h]; rfl

theorem succeed_ytd {s t : State} (h : succeed s = .next t) : t.ytd = s.ytd := by
  obtain ⟨h1, h2, h3⟩ := written_of_succeed h
  rw [succeed_eq s h1 h2 h3] at h
  cases h; rfl

/-- FCINC and HALTCHK write the count, its free value, `RUN` and the trace. -/
theorem fcIncrement_frame (s : State) : (fcIncrement s).ytd = s.ytd ∧ (fcIncrement s).b1 = s.b1 ∧
    (fcIncrement s).b2 = s.b2 ∧ (fcIncrement s).b3 = s.b3 := by
  rcases fcIncrement_cases s with ⟨-, h⟩ | ⟨-, h⟩ <;> rw [h] <;> exact ⟨rfl, rfl, rfl, rfl⟩

theorem haltCheck_frame (s : State) : (haltCheck s).ytd = s.ytd ∧ (haltCheck s).b1 = s.b1 ∧
    (haltCheck s).b2 = s.b2 ∧ (haltCheck s).b3 = s.b3 := by
  rcases haltCheck_cases s with ⟨-, h⟩ | ⟨-, h⟩ <;> rw [h] <;> exact ⟨rfl, rfl, rfl, rfl⟩

/-! ### Every operation -/

section
variable {s t : State} {i : Instr}

theorem OpStep.ytd_eq (h : OpStep s i t) : t.ytd = s.ytd := by
  cases h with
  | bad1 | bad2 | tickF1 | tickF2 | tickF3 => simp [transportError_ytd, beginTick]
  | fcinc => exact (fcIncrement_frame s).1
  | haltchk => exact (haltCheck_frame s).1
  | tickOk _ _ _ _ ht => simp [succeed_ytd ht, beginTick]
  | _ => rfl

theorem OpStep.b1_eq (h : OpStep s i t) (hi : i ∉ [Instr.rdblk2, .clamp, .decode, .tickOk, .tickF3])
    (hF2 : ∀ e3, i ≠ .tickF2 e3) : t.b1 = s.b1 := by
  cases h with
  | good1 | clamp | decode | tickOk | tickF3 => simp at hi
  | tickF2 _ e3 => exact absurd rfl (hF2 e3)
  | bad1 | bad2 | tickF1 => simp [transportError_b1, beginTick]
  | fcinc => exact (fcIncrement_frame s).2.1
  | haltchk => exact (haltCheck_frame s).2.1
  | _ => rfl

theorem OpStep.b2_eq (h : OpStep s i t) (hi : i ∉ [Instr.rdblk3, .tickOk, .tickF3]) : t.b2 = s.b2 := by
  cases h with
  | good2 | tickOk | tickF3 => simp at hi
  | bad1 | bad2 | tickF1 | tickF2 => simp [transportError_b2, beginTick]
  | fcinc => exact (fcIncrement_frame s).2.2.1
  | haltchk => exact (haltCheck_frame s).2.2.1
  | _ => rfl

theorem OpStep.b3_eq (h : OpStep s i t) (hi : i ∉ [Instr.tickOk]) : t.b3 = s.b3 := by
  cases h with
  | tickOk => simp at hi
  | bad1 | bad2 | tickF1 | tickF2 | tickF3 => simp [transportError_b3, beginTick]
  | fcinc => exact (fcIncrement_frame s).2.2.2
  | haltchk => exact (haltCheck_frame s).2.2.2
  | _ => rfl

theorem closeTick_ytd (h : closeTick s = .next t) : t.ytd = s.ytd := by
  obtain ⟨-, _, _, -, ⟨ws, -, hg⟩ | ⟨-, rfl⟩⟩ := onAnswer_next h
  · rw [succeed_ytd hg]; rfl
  · rw [transportError_ytd]; rfl

end

/-- Settles O55: by the ways an operation can answer, and the answer of read 3, which is no operation. -/
theorem nothingWritesYieldToday : Obligations.NothingWritesYieldToday := by
  refine ⟨fun i s t h => (opStep_of_exec h).ytd_eq, fun s t h hne => ?_, fun i s t h => ?_⟩
  · rcases step_cases h with ⟨hreset, -⟩ | ⟨_, _, -, -, hop⟩ | ⟨-, hclose⟩ | ⟨-, rfl⟩ | ⟨-, rfl⟩
    · exact absurd hreset hne
    · exact (opStep_of_exec hop).ytd_eq
    · exact closeTick_ytd hclose
    · rfl
    · rfl
  · have hop := opStep_of_exec h
    exact ⟨hop.b1_eq, hop.b2_eq, hop.b3_eq⟩

end Sys2Proof.Machine
end

section
/-! The step of each event of the environment that is no whole line: reset, strobe, answers, silence (R141 to R145, R158,
R175, R183, R200 to R203). -/

namespace Sys2Proof.Machine

/-! ### The step and what it selects -/

theorem step_of_select_op {s : State} {sel : Sel} {i : Instr} (h : select s = .op sel) (hi : decode sel = .ok i) :
    step s = exec i s.clearSel := by
  simp only [step, h, hi]

theorem step_of_select_reserved {s : State} {sel : Sel} {e : DecodeError} (h : select s = .op sel)
    (he : decode sel = .error e) : step s = .refused (.invalidSelector e) := by
  simp only [step, h, he]

theorem step_of_select_refuse {s : State} {r : Refusal} (h : select s = .refuse r) : step s = .refused r := by
  simp only [step, h]

theorem step_of_select_ignore {s : State} (h : select s = .ignore) : step s = .next s.dropEvent := by
  simp only [step, h]

theorem step_of_select_rest {s : State} (h : select s = .rest) : step s = .next s := by
  simp only [step, h]

theorem step_of_select_stuck {s : State} (h : select s = .stuck) : step s = .fault .readUnanswered := by
  simp only [step, h]

/-- The sequencer's choice of an operation runs that operation, where no word is presented. -/
theorem step_of_select_encode {s : State} (hs : s.opSel = none) {i : Instr} (h : select s = .op (encode i)) :
    step s = exec i s := by
  rw [step_of_select_op h (decode_encode i), State.clearSel_of_none hs]

/-- Settles O40. -/
theorem stepRunsDecodedInstruction : Obligations.StepRunsDecodedInstruction :=
  ⟨fun _ _ _ => step_of_select_op, fun _ _ _ => step_of_select_reserved⟩

/-! ### What each event selects -/

section
variable {s : State} {r : Answer} {r1 r2 r3 : Option Answer} {rest : List EnvEvent}

theorem select_reset (hs : s.opSel = none) (he : s.env = .reset :: rest) : select s = .reset := by
  simp [select, hs, selectEvent, he]

theorem select_tick_idle (hs : s.opSel = none) (he : s.env = .tick :: rest) (hr : s.run = true) (hp : s.ph = .idle) :
    select s = .op (encode .rdblk1) := by
  simp [select, hs, selectEvent, he, hr, hp]

theorem select_tick_terminated (hs : s.opSel = none) (he : s.env = .tick :: rest) (hr : s.run = false) :
    select s = .op (encode (.tickNop false false false)) := by
  simp [select, hs, selectEvent, he, hr, encode]

/-- R158, D14. -/
theorem select_tick_busy (hs : s.opSel = none) (he : s.env = .tick :: rest) (hr : s.run = true) (hp : s.ph ≠ .idle) :
    select s = .refuse .tickDuringTick := by
  simp [select, hs, selectEvent, he, hr, hp]

/-- R158, D14, for a whole line. -/
theorem select_line_busy (hs : s.opSel = none) (he : s.env = .tickLine r1 r2 r3 :: rest) (hr : s.run = true)
    (hp : s.ph ≠ .idle) : select s = .refuse .tickDuringTick := by
  simp [select, hs, selectEvent, he, hr, hp]

theorem select_answer_terminated (hs : s.opSel = none) (he : s.env = .answer r :: rest) (hr : s.run = false) :
    select s = .ignore := by
  simp [select, hs, selectEvent, he, hr]

theorem select_lateAnswer (hs : s.opSel = none) (he : s.env = .lateAnswer r :: rest) : select s = .ignore := by
  simp [select, hs, selectEvent, he]

/-- R191, R203: nothing arrives and nothing is awaited. -/
theorem select_silence (hs : s.opSel = none) (he : s.env = []) (h : s.run = false ∨ s.ph = .idle) :
    select s = .rest := by
  rcases h with h | h <;> simp [select, hs, selectEvent, he, h]

/-- R73, D21: a read is awaited and nothing arrives. -/
theorem select_silence_awaiting (hs : s.opSel = none) (he : s.env = []) (hr : s.run = true) (hp : s.ph ≠ .idle) :
    select s = .stuck := by
  simp [select, hs, selectEvent, he, hr, hp]

/-! ### The operations on their events -/

/-- R145. -/
theorem exec_tickNop {e1 e2 e3 : Bool} (hr : s.run = false)
    (he : s.env = .tick :: rest ∨ ∃ r1 r2 r3, s.env = .tickLine r1 r2 r3 :: rest) :
    exec (.tickNop e1 e2 e3) s = .next s.dropEvent := by
  rcases he with he | ⟨r1, r2, r3, he⟩ <;>
    simp only [exec, execTickNop, he, hr, Bool.false_eq_true, if_false]

/-- R141. -/
theorem exec_rdblk1 (hr : s.run = true) (hp : s.ph = .idle) (he : s.env = .tick :: rest) :
    exec .rdblk1 s = .next ((beginTick s).setPh .w1) := by
  simp only [exec, execRdblk1, he, hr, hp, Bool.not_true, Bool.false_eq_true, if_false, if_true]

/-- R142 to R144: an answer with as many words as were asked for hands them on. -/
theorem onAnswer_of_words {p : Phase} {n : Nat} {ws : Vector Word n} (hp : s.ph = p) (he : s.env = .answer r :: rest)
    (hw : r.words n = some ws) (good : Vector Word n → State → Result) :
    onAnswer s p n good = good ws s.dropEvent := by
  simp only [onAnswer, hp, he, hw, if_true]

end

/-- Settles O2: reset is selected in every phase, before anything else. -/
theorem resetEventRestoresReset : Obligations.ResetEventRestoresReset := by
  intro s rest hs he
  rw [step_reset (select_reset hs he), applyReset, he]
  rfl

/-- Settles O30: a tick begins with the strobe taken, its banks and draft empty and read 1 issued. -/
theorem rdblk1IssuesReadOne : Obligations.Rdblk1IssuesReadOne := by
  intro s rest hr hp he
  rw [exec_rdblk1 hr hp he, beginTick, State.dropEvent_of_cons he]
  rfl

/-- Settles O31: a good answer hands its words on, in either phase. -/
theorem goodAnswersIssueTheNextRead : Obligations.GoodAnswersIssueTheNextRead := by
  refine ⟨fun s rest ws hp he => ?_, fun s rest ws hp he => ?_⟩
  · rw [exec, execRdblk2, onAnswer_of_words hp he (Answer_words_toList ws), State.dropEvent_of_cons he]
    rfl
  · rw [exec, execRdblk3, onAnswer_of_words hp he (Answer_words_toList ws), State.dropEvent_of_cons he]
    rfl

/-- Settles O32: a bad answer is a failed tick, in either phase. -/
theorem badAnswersFailTheTick : Obligations.BadAnswersFailTheTick := by
  refine ⟨fun s r rest hr hf hp he hbad => ?_, fun s r rest hr hf hp he hbad => ?_⟩
  · rw [exec, execRdblk2, onAnswer_of_bad hp hr hf he hbad]
  · rw [exec, execRdblk3, onAnswer_of_bad hp hr hf he hbad]

/-- The test of R149 as the comparison itself. -/
theorem ite_newPeak (yp m : BitVec 32) : (if newPeak yp m then yp else m) = if m.toNat < yp.toNat then yp else m := by
  simp only [newPeak_iff]

/-- Settles O33: a good answer 3 completes the banks for a success, a bad one is a TransportError (O34). -/
theorem thirdAnswerClosesTheTick : Obligations.ThirdAnswerClosesTheTick := by
  refine ⟨?_, fun s r rest hs hr hf hp he hbad =>
    (transportErrorEntry s r rest 20 hs hr hf (.inr (.inr ⟨hp, rfl⟩)) he hbad).1⟩
  intro s rest w3 p m hs hr hp h1 h2 he hpd hm
  rw [← ite_newPeak] at hm
  subst hpd hm
  rw [step_answer_w3 hs hr he hp, closeTick, onAnswer_of_words hp he (Answer_words_toList w3),
    succeed_eq (s.dropEvent.loadB3 w3) h1 h2 rfl, State.dropEvent_of_cons he]
  rfl

/-- Settles O38: TICK.NOP takes the strobe or the line. -/
theorem tickNopDoesNothing : Obligations.TickNopDoesNothing := by
  intro s e1 e2 e3 rest hr he
  rw [exec_tickNop hr he]
  rcases he with he | ⟨_, _, _, he⟩ <;> rw [State.dropEvent_of_cons he]

/-- Settles O42: none of these selects an operation. -/
theorem meaninglessSituationsStop : Obligations.MeaninglessSituationsStop := by
  intro s rest hs hr
  refine ⟨fun he hp => step_of_select_refuse (select_tick_busy hs he hr hp),
    fun r1 r2 r3 he hp => step_of_select_refuse (select_line_busy hs he hr hp), fun r he hp => ?_,
    fun he hp => step_of_select_stuck (select_silence_awaiting hs he hr hp)⟩
  exact step_of_select_refuse ((select_answer hs hr he).trans (by rw [hp]; rfl))

/-- Settles O43. -/
theorem lateAnswersAndSilenceChangeNothing : Obligations.LateAnswersAndSilenceChangeNothing := by
  refine ⟨fun s r rest hs he => ?_, fun s hs he hp => step_of_select_rest (select_silence hs he (.inr hp))⟩
  rw [step_of_select_ignore (select_lateAnswer hs he), State.dropEvent_of_cons he]

/-- R183: a terminated block takes every event but reset and does nothing. -/
theorem step_terminated {s : State} (hs : s.opSel = none) (hr : s.run = false) (hne : ∀ rest, s.env ≠ .reset :: rest) :
    step s = .next s.dropEvent := by
  rcases he : s.env with _ | ⟨e, rest⟩
  · have hdrop : s.dropEvent = s := by rw [State.dropEvent, he, List.tail_nil, ← he]
    rw [step_of_select_rest (select_silence hs he (.inl hr)), hdrop]
  cases e with
  | reset => exact absurd he (hne rest)
  | tick => rw [step_of_select_encode hs (select_tick_terminated hs he hr), exec_tickNop hr (.inl he)]
  | answer r => exact step_of_select_ignore (select_answer_terminated hs he hr)
  | lateAnswer r => exact step_of_select_ignore (select_lateAnswer hs he)
  | tickLine r1 r2 r3 => exact step_line_terminated hs he hr

/-- Settles O44: event by event; the outputs read `RUN` alone. -/
theorem terminatedIgnoresEverything : Obligations.TerminatedIgnoresEverything := by
  intro s hs hr hne
  refine ⟨step_terminated hs hr hne, ?_, ?_, Nat.succ_ne_zero _⟩
  · rw [State.haltOut, hr]; rfl
  · rw [State.exitShown, hr]; rfl

end Sys2Proof.Machine
end

section
/-! Whole ticks: each tick outcome on a line it belongs to (R151 to R154) and on one it does not (R93), and what each line
selects. -/

namespace Sys2Proof.Machine

section
variable {s : State} {r1 r2 r3 : Option Answer} {rest : List EnvEvent} {w1 : Vector Word 18} {w2 : Vector Word 3}
  {w3 : Vector Word 20}

/-! ### The outcome of the line's answers -/

@[simp] theorem lineWords_toList {n : Nat} (v : Vector Word n) : lineWords (some (.ok v.toList)) n = some v :=
  Answer_words_toList v

theorem exec_tickOk (he : s.env = .tickLine r1 r2 r3 :: rest) (hr : s.run = true) (hp : s.ph = .idle)
    (h1 : lineWords r1 18 = some w1) (h2 : lineWords r2 3 = some w2) (h3 : lineWords r3 20 = some w3) :
    exec .tickOk s = succeed ((((((beginTick s).loadB1 w1).request2).loadB2 w2).request3).loadB3 w3) :=
  (onTickLine_line he hr hp _).trans (by simp only [h1, h2, h3])

theorem exec_tickF1 (he : s.env = .tickLine r1 r2 r3 :: rest) (hr : s.run = true) (hp : s.ph = .idle)
    (h1 : lineBad r1 18 = true) (e2 e3 : Bool) : exec (.tickF1 e2 e3) s = .next (transportError (beginTick s)) :=
  (onTickLine_line he hr hp _).trans (if_pos h1)

theorem exec_tickF2 (he : s.env = .tickLine r1 r2 r3 :: rest) (hr : s.run = true) (hp : s.ph = .idle)
    (h1 : lineWords r1 18 = some w1) (h2 : lineBad r2 3 = true) (e3 : Bool) :
    exec (.tickF2 e3) s = .next (transportError (((beginTick s).loadB1 w1).request2)) :=
  (onTickLine_line he hr hp _).trans (by simp only [h1, h2, if_true])

theorem exec_tickF3 (he : s.env = .tickLine r1 r2 r3 :: rest) (hr : s.run = true) (hp : s.ph = .idle)
    (h1 : lineWords r1 18 = some w1) (h2 : lineWords r2 3 = some w2) (h3 : lineBad r3 20 = true) :
    exec .tickF3 s = .next (transportError (((((beginTick s).loadB1 w1).request2).loadB2 w2).request3)) :=
  (onTickLine_line he hr hp _).trans (by simp only [h1, h2, h3, if_true])

/-! ### An outcome against `RUN` or its answers (R93) -/

theorem onTickLine_terminated (he : s.env = .tickLine r1 r2 r3 :: rest) (hr : s.run = false)
    (f : Option Answer → Option Answer → Option Answer → Result) : onTickLine s f = .refused .outcomeMismatch := by
  simp only [onTickLine, he, hr, Bool.not_false, if_true]

/-- A whole-tick operation with `run = 1` on a line is refused if `RUN = 0`, and if its answers do not fit. -/
theorem onTickLine_mismatch {f : Option Answer → Option Answer → Option Answer → Result}
    (he : s.env = .tickLine r1 r2 r3 :: rest) (hp : s.run = true → s.ph = .idle)
    (hf : s.run = true → f r1 r2 r3 = .refused .outcomeMismatch) : onTickLine s f = .refused .outcomeMismatch := by
  cases hr : s.run with
  | false => exact onTickLine_terminated he hr f
  | true => rw [onTickLine_line he hr (hp hr), hf hr]

theorem lineWords_eq_none_of_not_good {r : Option Answer} {n : Nat} (h : lineGood r n = false) :
    lineWords r n = none := by
  rwa [lineGood_iff, Option.isSome_eq_false_iff, Option.isNone_iff_eq_none] at h

end

/-! ### The reads of a whole tick, all fields at once (R141 to R143) -/

/-- `s` inside a whole tick, with the rest of the script, the words of the two banks it read and the events it emitted. -/
def afterReads (s : State) (rest : List EnvEvent) (b1 : Vector Word 18) (b2 : Vector Word 3) (b1w b2w : Bool)
    (evs : List Event) : State :=
  { s with
    env := rest, b1 := b1, b2 := b2, b1w := b1w, b2w := b2w, b3w := false, draft := Draft.empty
    trace := s.trace ++ evs }

section
variable {s : State} {e : EnvEvent} {rest : List EnvEvent}

theorem beginTick_eq (he : s.env = e :: rest) :
    beginTick s = afterReads s rest s.b1 s.b2 false false [.req 0x3100#16 18#8] := by
  rw [beginTick, State.dropEvent_of_cons he]
  rfl

theorem read2_eq (he : s.env = e :: rest) (w1 : Vector Word 18) : ((beginTick s).loadB1 w1).request2 =
    afterReads s rest w1 s.b2 true false [.req 0x3100#16 18#8, .req 0x3200#16 3#8] := by
  rw [beginTick_eq he, State.request2, State.emit, State.loadB1_trace, afterReads, List.append_assoc]
  rfl

theorem read3_eq (he : s.env = e :: rest) (w1 : Vector Word 18) (w2 : Vector Word 3) :
    ((((beginTick s).loadB1 w1).request2).loadB2 w2).request3 =
      afterReads s rest w1 w2 true true [.req 0x3100#16 18#8, .req 0x3200#16 3#8, .req 0x3300#16 20#8] := by
  rw [read2_eq he, State.request3, State.emit, State.loadB2_trace, afterReads, List.append_assoc]
  rfl

/-- R178: a tick that fails after its reads leaves the state of a failed tick, but for the banks it filled. -/
theorem transportError_afterReads (hr : s.run = true) (hf : s.fc.toNat < 3) (b1 : Vector Word 18) (b2 : Vector Word 3)
    (b1w b2w : Bool) (evs : List Event) : transportError (afterReads s rest b1 b2 b1w b2w evs) =
      { failedTick s rest evs with b1 := b1, b2 := b2 } := by
  rw [transportError_eq (afterReads s rest b1 b2 b1w b2w evs) hr hf, failedTick, List.append_nil]
  rfl

end

/-- Settles O35: the three good answers fill the banks, and the success is written out. -/
theorem tickOkSucceeds : Obligations.TickOkSucceeds := by
  intro s rest w1 w2 w3 p m hr hp he hpd hm
  rw [← ite_newPeak] at hm
  subst hpd hm
  rw [exec_tickOk he hr hp (lineWords_toList w1) (lineWords_toList w2) (lineWords_toList w3), read3_eq he,
    succeed_eq _ rfl rfl rfl, State.loadB3_trace, afterReads, List.append_assoc, ← hp]
  rfl

/-- Settles O36: the response to the error after one read, and after two. -/
theorem tickFailsAtFirstOrSecondRead : Obligations.TickFailsAtFirstOrSecondRead := by
  refine ⟨fun s r1 o2 o3 rest e2 e3 hr hf hp he hbad => ?_, fun s w1 r2 o3 rest e3 hr hf hp he hbad => ?_⟩
  · rw [exec_tickF1 he hr hp hbad, beginTick_eq he, transportError_afterReads hr hf]
    rfl
  · rw [exec_tickF2 he hr hp (lineWords_toList w1) hbad, read2_eq he, transportError_afterReads hr hf]
    rfl

/-- Settles O37: the response to the error after all three reads; what it does to the published sequence is O34. -/
theorem tornReadPublishesNothing : Obligations.TornReadPublishesNothing := by
  intro s w1 w2 r3 rest t hr hf hp he hbad ht
  subst ht
  refine ⟨?_, rfl, rfl, rfl, (pubsOf_failedTick s rest _).trans (List.append_nil _)⟩
  rw [exec_tickF3 he hr hp (lineWords_toList w1) (lineWords_toList w2) hbad, read3_eq he,
    transportError_afterReads hr hf]

/-- Settles O39: each outcome checks `RUN` first and then its own answers. -/
theorem outcomesAgainstTheirWordAreRefused : Obligations.OutcomesAgainstTheirWordAreRefused := by
  intro s r1 r2 r3 rest e1 e2 e3 he hp
  refine ⟨fun hr => ?_, fun h => ?_, fun h => ?_, fun h => ?_, fun h => ?_⟩
  · simp only [exec, execTickNop, he, hr, if_true]
  · refine onTickLine_mismatch he hp fun hr => ?_
    have hbad : lineSucceeds r1 r2 r3 = false := h.resolve_left (by simp [hr])
    split
    next w1 w2 w3 h1 h2 h3 =>
      simp [lineSucceeds, lineGood_iff, show lineWords r1 18 = _ from h1, show lineWords r2 3 = _ from h2,
        show lineWords r3 20 = _ from h3] at hbad
    next => rfl
  · refine onTickLine_mismatch he hp fun hr => ?_
    have h1 : lineBad r1 18 = false := h.resolve_left (by simp [hr])
    exact if_neg (by simp [h1])
  · refine onTickLine_mismatch he hp fun hr => ?_
    rcases h.resolve_left (by simp [hr]) with h1 | h2
    · simp only [lineWords_eq_none_of_not_good h1]
    · cases lineWords r1 18 <;> simp [h2]
  · refine onTickLine_mismatch he hp fun hr => ?_
    rcases h.resolve_left (by simp [hr]) with h1 | h2 | h3
    · simp only [lineWords_eq_none_of_not_good h1]
    · cases lineWords r1 18 <;> simp only [lineWords_eq_none_of_not_good h2]
    · cases lineWords r1 18 <;> cases lineWords r2 3 <;> simp [h3]

/-! ### The outcome a line selects -/

section
variable {s : State} {r1 r2 r3 : Option Answer} {rest : List EnvEvent}

theorem step_line_tickOk (hs : s.opSel = none) (he : s.env = .tickLine r1 r2 r3 :: rest) (hr : s.run = true)
    (hp : s.ph = .idle) (h : lineSucceeds r1 r2 r3 = true) : step s = exec .tickOk s := by
  obtain ⟨h1, h2, h3⟩ := (lineSucceeds_iff r1 r2 r3).1 h
  obtain ⟨n3, g3⟩ := (lineGood_iff_isNone_and_lineBad r3 20).1 h3
  exact step_line hs he hr hp (lineOutcome_of_lineGood2 h1 h2 n3) (by rw [g3, decode_outcomeWord]; rfl)

theorem step_line_tickF1 (hs : s.opSel = none) (he : s.env = .tickLine r1 r2 r3 :: rest) (hr : s.run = true)
    (hp : s.ph = .idle) (h1 : lineBad r1 18 = true) :
    step s = exec (.tickF1 (lineBad r2 3) (lineBad r3 20)) s :=
  step_line hs he hr hp (lineOutcome_of_lineBad1 h1) (decode_outcomeWord ..)

theorem step_line_tickF2 (hs : s.opSel = none) (he : s.env = .tickLine r1 r2 r3 :: rest) (hr : s.run = true)
    (hp : s.ph = .idle) (h1 : lineGood r1 18 = true) (h2 : lineBad r2 3 = true) :
    step s = exec (.tickF2 (lineBad r3 20)) s :=
  step_line hs he hr hp (lineOutcome_of_lineBad2 h1 h2) (decode_outcomeWord ..)

theorem step_line_tickF3 (hs : s.opSel = none) (he : s.env = .tickLine r1 r2 r3 :: rest) (hr : s.run = true)
    (hp : s.ph = .idle) (h1 : lineGood r1 18 = true) (h2 : lineGood r2 3 = true) (h3 : lineBad r3 20 = true) :
    step s = exec .tickF3 s :=
  step_line hs he hr hp (lineOutcome_of_lineGood2 h1 h2 (isNone_of_lineBad h3)) (by rw [h3, decode_outcomeWord]; rfl)

end

/-- Settles O41: an event selects the encoding of its operation, a line the outcome word of its answers. -/
theorem eventsSelectTheirOperation : Obligations.EventsSelectTheirOperation := by
  intro s rest hs
  refine ⟨fun he hr hp => step_of_select_encode hs (select_tick_idle hs he hr hp),
    fun he hr => step_of_select_encode hs (select_tick_terminated hs he hr),
    fun r he hr hp => step_answer_w1 hs hr he hp, fun r he hr hp => step_answer_w2 hs hr he hp,
    fun _ _ _ => step_line_tickOk hs, fun _ _ _ => step_line_tickF1 hs, fun _ _ _ => step_line_tickF2 hs,
    fun _ _ _ => step_line_tickF3 hs, fun r1 r2 r3 he hr => ?_⟩
  rw [step_line_terminated hs he hr, exec_tickNop hr (.inr ⟨r1, r2, r3, he⟩)]

end Sys2Proof.Machine
end

section
/-! Progress: complete lines and awaited answers always make a step (R140 to R144, R101). -/

namespace Sys2Proof.Machine

theorem transportError_env (s : State) : (transportError s).env = s.env := by
  obtain ⟨_, _, _, _, -, h⟩ := transportError_writes s
  rw [h]; rfl

theorem transportError_ph (s : State) : (transportError s).ph = .idle := rfl

/-- On written banks a success has a next state, with nothing of the script taken and the tick over. -/
theorem exists_succeed {s : State} (h1 : s.b1w = true) (h2 : s.b2w = true) (h3 : s.b3w = true) :
    ∃ t, succeed s = .next t ∧ t.env = s.env ∧ t.ph = .idle :=
  ⟨_, succeed_eq s h1 h2 h3, rfl, rfl⟩

/-! ### Whole lines -/

section
variable {s : State} {r1 r2 r3 : Option Answer} {rest : List EnvEvent}

/-- A line with every answer that is asked for is taken in one step, and the block is between ticks again. -/
theorem exists_step_of_line (hs : s.opSel = none) (he : s.env = .tickLine r1 r2 r3 :: rest)
    (hp : s.run = true → s.ph = .idle)
    (hline : s.run = true → lineSucceeds r1 r2 r3 = true ∨ lineFails r1 r2 r3 = true) :
    ∃ t, step s = .next t ∧ t.env = rest ∧ t.ph = s.ph := by
  cases hr : s.run with
  | false => exact ⟨_, step_line_terminated hs he hr, by rw [State.dropEvent_env, he]; rfl, rfl⟩
  | true =>
    have hidle := hp hr
    rw [hidle]
    rcases hline hr with hg | hf
    · obtain ⟨u, hu, ⟨h1, h2, h3⟩, hstep⟩ := step_line_succeeds hs he hr hidle hg
      obtain ⟨t, ht, henv, hph⟩ := exists_succeed h1 h2 h3
      exact ⟨t, hstep.trans ht, by rw [henv, hu.env, he]; rfl, hph⟩
    · obtain ⟨u, hu, hstep⟩ := step_line_fails hs he hr hidle hf
      exact ⟨_, hstep, by rw [transportError_env, hu.env, he]; rfl, transportError_ph u⟩

end

section
variable (r1 r2 r3 : Option Answer)

/-- A read cannot be good and bad. -/
theorem lineFails_eq_false_of_lineSucceeds (h : lineSucceeds r1 r2 r3 = true) : lineFails r1 r2 r3 = false := by
  obtain ⟨h1, h2, h3⟩ := (lineSucceeds_iff r1 r2 r3).1 h
  have b1 := ((lineGood_iff_isNone_and_lineBad r1 18).1 h1).2
  have b2 := ((lineGood_iff_isNone_and_lineBad r2 3).1 h2).2
  have b3 := ((lineGood_iff_isNone_and_lineBad r3 20).1 h3).2
  simp [lineFails, b1, b2, b3]

/-- An answer that stands in the line is good or bad. -/
theorem lineGood_of_isSome {r : Option Answer} {n : Nat} (h : r.isSome = true) (hb : lineBad r n = false) :
    lineGood r n = true := by
  rw [lineGood_eq, h, hb]; rfl

/-- R101: in a well-written line for a running block an answer stands wherever its read is issued. -/
theorem lineSucceeds_or_lineFails_of_wf (h : EnvEvent.wf true (.tickLine r1 r2 r3) = true) :
    lineSucceeds r1 r2 r3 = true ∨ lineFails r1 r2 r3 = true := by
  rw [lineSucceeds_iff, lineFails_iff]
  simp only [EnvEvent.wf, blk1Len, blk2Len, Bool.not_true, Bool.false_or, Bool.and_eq_true, Bool.or_eq_true] at h
  obtain ⟨-, hs1, hrest⟩ := h
  cases hb1 : lineBad r1 18 with
  | true => exact .inr (.inl rfl)
  | false =>
    have g1 := lineGood_of_isSome hs1 hb1
    obtain ⟨hs2, hrest⟩ := hrest.resolve_left (by simp [hb1])
    cases hb2 : lineBad r2 3 with
    | true => exact .inr (.inr (.inl ⟨g1, rfl⟩))
    | false =>
      have g2 := lineGood_of_isSome hs2 hb2
      have hs3 := hrest.resolve_left (by simp [hb2])
      cases hb3 : lineBad r3 20 with
      | true => exact .inr (.inr (.inr ⟨g1, g2, rfl⟩))
      | false => exact .inl ⟨g1, g2, lineGood_of_isSome hs3 hb3⟩

/-- R101: after a bad answer only `-`. -/
theorem none_after_bad_of_wf {run : Bool} (h : EnvEvent.wf run (.tickLine r1 r2 r3) = true) :
    (lineBad r1 18 = true → r2 = none ∧ r3 = none) ∧ (lineBad r2 3 = true → r3 = none) := by
  simp only [EnvEvent.wf, blk1Len, blk2Len, Bool.and_eq_true, Bool.or_eq_true, Bool.not_eq_true',
    Option.isNone_iff_eq_none] at h
  obtain ⟨⟨h1, h2⟩, -⟩ := h
  exact ⟨fun hb => h1.resolve_left (by simp [hb]), fun hb => h2.resolve_left (by simp [hb])⟩

end

/-- Settles O56: a line with its answers steps, and the check of script lines asks for just these answers. -/
theorem completeLinesAlwaysStep : Obligations.CompleteLinesAlwaysStep := by
  refine ⟨fun s r1 r2 r3 rest => exists_step_of_line, fun r1 r2 r3 hwf => ?_,
    fun run r1 r2 r3 => none_after_bad_of_wf r1 r2 r3, fun s r1 r2 r3 rest hs he hp hwf => ?_⟩
  · cases hg : lineSucceeds r1 r2 r3 with
    | true => exact .inl ⟨rfl, lineFails_eq_false_of_lineSucceeds r1 r2 r3 hg⟩
    | false => exact .inr ⟨rfl, (lineSucceeds_or_lineFails_of_wf r1 r2 r3 hwf).resolve_left (by simp [hg])⟩
  · obtain ⟨t, hstep, henv, -⟩ := exists_step_of_line hs he hp fun hr =>
      lineSucceeds_or_lineFails_of_wf r1 r2 r3 (hr ▸ hwf)
    exact ⟨t, hstep, henv⟩

/-! ### Single answers -/

/-- R171: an awaited answer without the words asked for is a TransportError. -/
theorem onAnswer_of_no_words {s : State} {r : Answer} {rest : List EnvEvent} {p : Phase} {n : Nat} (hp : s.ph = p)
    (he : s.env = .answer r :: rest) (hw : r.words n = none) (good : Vector Word n → State → Result) :
    onAnswer s p n good = .next (transportError s.dropEvent) := by
  simp only [onAnswer, hp, he, hw, if_true]

/-- An awaited answer is taken if a good one is. -/
theorem exists_onAnswer {s : State} {r : Answer} {rest : List EnvEvent} {p : Phase} {n : Nat}
    {good : Vector Word n → State → Result} (hp : s.ph = p) (he : s.env = .answer r :: rest)
    (hgood : ∀ ws, ∃ t, good ws s.dropEvent = .next t ∧ t.env = s.dropEvent.env) :
    ∃ t, onAnswer s p n good = .next t ∧ t.env = rest := by
  have hrest : s.dropEvent.env = rest := by rw [State.dropEvent_env, he]; rfl
  cases hw : r.words n with
  | some ws =>
    obtain ⟨t, ht, henv⟩ := hgood ws
    exact ⟨t, (onAnswer_of_words hp he hw good).trans ht, henv.trans hrest⟩
  | none => exact ⟨_, onAnswer_of_no_words hp he hw good, (transportError_env _).trans hrest⟩

/-- Settles O57: a read is awaited only in a running block, and in phase 3 with the first two banks written. -/
theorem awaitedAnswersAlwaysStep : Obligations.AwaitedAnswersAlwaysStep := by
  intro s r rest h he hp
  have hr : s.run = true := Bool.not_eq_false _ ▸ fun hrun => hp (h.halted_idle hrun)
  have hs := h.no_sel
  cases hph : s.ph with
  | idle => exact absurd hph hp
  | w1 =>
    rw [step_answer_w1 hs hr he hph]
    exact exists_onAnswer hph he fun _ => ⟨_, rfl, rfl⟩
  | w2 =>
    rw [step_answer_w2 hs hr he hph]
    exact exists_onAnswer hph he fun _ => ⟨_, rfl, rfl⟩
  | w3 =>
    obtain ⟨h1, h2, -⟩ := h.marks
    rw [hph] at h1 h2
    rw [step_answer_w3 hs hr he hph]
    refine exists_onAnswer hph he fun ws => ?_
    obtain ⟨t, ht, henv, -⟩ := exists_succeed (s := s.dropEvent.loadB3 ws) h1 h2 rfl
    exact ⟨t, ht, henv⟩

end Sys2Proof.Machine
end

section
/-! D19: the strobe and the answers one by one end where the whole line ends. A failed or successful tick ends in PH 0
whatever its phase was, and that is the only thing in which the two grains differ on the way. -/

namespace Sys2Proof.Machine

/-! ### The end of a tick forgets the phase -/

theorem fcIncrement_setPh (s : State) (p : Phase) : fcIncrement (s.setPh p) = (fcIncrement s).setPh p := by
  by_cases h : s.fc = 3
  · rw [fcIncrement, fcIncrement, if_pos h, if_pos (show (s.setPh p).fc = 3 from h)]
    rfl
  · rw [fcIncrement, fcIncrement, if_neg h, if_neg (show ¬(s.setPh p).fc = 3 from h)]
    rfl

theorem haltCheck_setPh (s : State) (p : Phase) : haltCheck (s.setPh p) = (haltCheck s).setPh p :=
  (apply_ite (State.setPh · p) (haltDue s.fc = true) (s.terminate.emit .halt) s).symm

theorem transportError_setPh (s : State) (p : Phase) : transportError (s.setPh p) = transportError s := by
  rw [transportError, fcIncrement_setPh, haltCheck_setPh]
  rfl

theorem succeed_setPh {s : State} (h1 : s.b1w = true) (h2 : s.b2w = true) (h3 : s.b3w = true) (p : Phase) :
    succeed (s.setPh p) = succeed s := by
  rw [succeed_eq s h1 h2 h3, succeed_eq (s.setPh p) h1 h2 h3]
  rfl

/-! ### The small steps -/

/-- `u` with the answers `es` to come, the first of them awaited in phase `p`. -/
def awaiting (u : State) (p : Phase) (es : List EnvEvent) : State := ({ u with env := es }).setPh p

/-- The same moment of a whole tick, its line already taken. -/
theorem awaiting_env {u : State} {rest : List EnvEvent} (he : u.env = rest) (p : Phase) :
    awaiting u p rest = u.setPh p := by
  rw [awaiting, ← he]

section
variable {u : State} {a : Answer} {es : List EnvEvent}

/-- R141. -/
theorem step_strobe (hs : u.opSel = none) (hr : u.run = true) (hp : u.ph = .idle) :
    step { u with env := .tick :: es } = .next (awaiting (beginTick u) .w1 es) := by
  have hsel : select { u with env := .tick :: es } = .op (encode .rdblk1) := select_tick_idle hs rfl hr hp
  exact (step_of_select_encode (s := { u with env := .tick :: es }) hs hsel).trans
    (exec_rdblk1 (s := { u with env := .tick :: es }) hr hp rfl)

/-- R142: a good answer 1. -/
theorem step_answer1_good {w1 : Vector Word 18} (hs : u.opSel = none) (hr : u.run = true) (hw : a.words 18 = some w1) :
    step (awaiting u .w1 (.answer a :: es)) = .next (awaiting (u.loadB1 w1).request2 .w2 es) :=
  (step_answer_w1 (s := awaiting u .w1 (.answer a :: es)) hs hr rfl rfl).trans (onAnswer_of_words rfl rfl hw _)

/-- R143: a good answer 2. -/
theorem step_answer2_good {w2 : Vector Word 3} (hs : u.opSel = none) (hr : u.run = true) (hw : a.words 3 = some w2) :
    step (awaiting u .w2 (.answer a :: es)) = .next (awaiting (u.loadB2 w2).request3 .w3 es) :=
  (step_answer_w2 (s := awaiting u .w2 (.answer a :: es)) hs hr rfl rfl).trans (onAnswer_of_words rfl rfl hw _)

/-- R144: a good answer 3. -/
theorem step_answer3_good {w3 : Vector Word 20} (hs : u.opSel = none) (hr : u.run = true)
    (hw : a.words 20 = some w3) :
    step (awaiting u .w3 (.answer a :: es)) = succeed (awaiting (u.loadB3 w3) .w3 es) :=
  (step_answer_w3 (s := awaiting u .w3 (.answer a :: es)) hs hr rfl rfl).trans (onAnswer_of_words rfl rfl hw _)

/-- R178: a bad answer, in the phase that awaits it. -/
theorem step_answer_bad {p : Phase} {n : Nat} (hs : u.opSel = none) (hr : u.run = true)
    (hp : p = .w1 ∧ n = 18 ∨ p = .w2 ∧ n = 3 ∨ p = .w3 ∧ n = 20) (hbad : a.bad n = true) :
    step (awaiting u p (.answer a :: es)) = .next (transportError (awaiting u p es)) := by
  have hw : a.words n = none := (Answer_words_eq_none a n).2 hbad
  rcases hp with ⟨rfl, rfl⟩ | ⟨rfl, rfl⟩ | ⟨rfl, rfl⟩
  · exact (step_answer_w1 (s := awaiting u .w1 _) hs hr rfl rfl).trans (onAnswer_of_no_words rfl rfl hw _)
  · exact (step_answer_w2 (s := awaiting u .w2 _) hs hr rfl rfl).trans (onAnswer_of_no_words rfl rfl hw _)
  · exact (step_answer_w3 (s := awaiting u .w3 _) hs hr rfl rfl).trans (onAnswer_of_no_words rfl rfl hw _)

end

/-! ### The answers of a line, one by one -/

theorem exists_of_lineBad {r : Option Answer} {n : Nat} (h : lineBad r n = true) :
    ∃ a, r = some a ∧ a.bad n = true := by
  cases r with
  | none => cases h
  | some a => exact ⟨a, rfl, h⟩

theorem exists_of_lineGood {r : Option Answer} {n : Nat} (h : lineGood r n = true) :
    ∃ a ws, r = some a ∧ a.words n = some ws ∧ a.bad n = false := by
  obtain ⟨ws, hw⟩ := exists_lineWords h
  have hb := ((lineGood_iff_isNone_and_lineBad r n).1 h).2
  cases r with
  | none => cases h
  | some a => exact ⟨a, ws, rfl, hw, hb⟩

theorem runSteps_one (s : State) : runSteps 1 s = step s := by
  rw [runSteps]
  cases step s <;> rfl

section
variable {s : State} {a1 a2 : Answer} {es rest : List EnvEvent} {w1 : Vector Word 18} {w2 : Vector Word 3}

/-- The strobe reaches the moment after read 1 is issued. -/
theorem runSteps_strobe (k : Nat) (hs : s.opSel = none) (hr : s.run = true) (hp : s.ph = .idle) :
    runSteps (k + 1) { s with env := .tick :: es } = runSteps k (awaiting (beginTick s) .w1 es) :=
  runSteps_succ (step_strobe hs hr hp)

/-- The strobe and a good answer reach the moment after read 2 is issued. -/
theorem runSteps_read2 (k : Nat) (hs : s.opSel = none) (hr : s.run = true) (hp : s.ph = .idle)
    (h1 : a1.words 18 = some w1) : runSteps (k + 2) { s with env := .tick :: .answer a1 :: es } =
      runSteps k (awaiting ((beginTick s).loadB1 w1).request2 .w2 es) :=
  (runSteps_strobe (k + 1) hs hr hp).trans (runSteps_succ (step_answer1_good hs hr h1))

/-- The strobe and two good answers reach the moment after read 3 is issued. -/
theorem runSteps_read3 (k : Nat) (hs : s.opSel = none) (hr : s.run = true) (hp : s.ph = .idle)
    (h1 : a1.words 18 = some w1) (h2 : a2.words 3 = some w2) :
    runSteps (k + 3) { s with env := .tick :: .answer a1 :: .answer a2 :: es } =
      runSteps k (awaiting ((((beginTick s).loadB1 w1).request2).loadB2 w2).request3 .w3 es) :=
  (runSteps_read2 (k + 1) hs hr hp h1).trans (runSteps_succ (step_answer2_good hs hr h2))

/-- A bad answer ends the small steps where the same moment of the whole tick ends. -/
theorem MidTick.step_bad {u : State} {a : Answer} {p : Phase} {n : Nat} (h : MidTick s u) (hs : s.opSel = none)
    (hr : s.run = true) (he : s.env.tail = rest) (hp : p = .w1 ∧ n = 18 ∨ p = .w2 ∧ n = 3 ∨ p = .w3 ∧ n = 20)
    (hbad : a.bad n = true) : step (awaiting u p (.answer a :: rest)) = .next (transportError u) := by
  rw [step_answer_bad (h.opSel.trans hs) (h.run.trans hr) hp hbad, awaiting_env (h.env.trans he), transportError_setPh]

/-- So does a good answer 3. -/
theorem MidTick.step_good {u : State} {a : Answer} {w3 : Vector Word 20} (h : MidTick s u) (hs : s.opSel = none)
    (hr : s.run = true) (he : s.env.tail = rest) (h1 : u.b1w = true) (h2 : u.b2w = true)
    (hw : a.words 20 = some w3) : step (awaiting u .w3 (.answer a :: rest)) = succeed (u.loadB3 w3) := by
  rw [step_answer3_good (h.opSel.trans hs) (h.run.trans hr) hw, awaiting_env ((h.loadB3 w3).env.trans he)]
  exact succeed_setPh (s := u.loadB3 w3) h1 h2 rfl .w3

end

section
variable {s : State} {r1 r2 r3 : Option Answer} {rest : List EnvEvent}

/-- The small steps of a line whose tick succeeds (R151). -/
theorem runSteps_lineEvents_of_succeeds (hs : s.opSel = none) (he : s.env = .tickLine r1 r2 r3 :: rest)
    (hr : s.run = true) (hp : s.ph = .idle) (h : lineSucceeds r1 r2 r3 = true) :
    runSteps (lineEvents true r1 r2 r3).length { s with env := lineEvents true r1 r2 r3 ++ rest } = step s := by
  have hrest : s.env.tail = rest := by rw [he]; rfl
  obtain ⟨h1, h2, h3⟩ := (lineSucceeds_iff r1 r2 r3).1 h
  rw [step_line_tickOk hs he hr hp h]
  obtain ⟨a1, w1, rfl, hw1, hb1⟩ := exists_of_lineGood h1
  obtain ⟨a2, w2, rfl, hw2, hb2⟩ := exists_of_lineGood h2
  obtain ⟨a3, w3, rfl, hw3, -⟩ := exists_of_lineGood h3
  have hev : lineEvents true (some a1) (some a2) (some a3) = [.tick, .answer a1, .answer a2, .answer a3] := by
    simp [lineEvents, hb1, hb2]
  rw [exec_tickOk he hr hp hw1 hw2 hw3, hev]
  refine (runSteps_read3 1 hs hr hp hw1 hw2).trans ?_
  rw [runSteps_one]
  exact (midTick_read3 s w1 w2).step_good hs hr hrest rfl rfl hw3

/-- The small steps of a line whose tick fails (R152 to R154). -/
theorem runSteps_lineEvents_of_fails (hs : s.opSel = none) (he : s.env = .tickLine r1 r2 r3 :: rest)
    (hr : s.run = true) (hp : s.ph = .idle) (h : lineFails r1 r2 r3 = true) :
    runSteps (lineEvents true r1 r2 r3).length { s with env := lineEvents true r1 r2 r3 ++ rest } = step s := by
  have hrest : s.env.tail = rest := by rw [he]; rfl
  rcases (lineFails_iff r1 r2 r3).1 h with h1 | ⟨h1, h2⟩ | ⟨h1, h2, h3⟩
  · rw [step_line_tickF1 hs he hr hp h1, exec_tickF1 he hr hp h1]
    obtain ⟨a1, rfl, hb1⟩ := exists_of_lineBad h1
    have hev : lineEvents true (some a1) r2 r3 = [.tick, .answer a1] := by simp [lineEvents, hb1]
    rw [hev]
    refine (runSteps_strobe 1 hs hr hp).trans ?_
    rw [runSteps_one]
    exact (midTick_beginTick s).step_bad hs hr hrest (.inl ⟨rfl, rfl⟩) hb1
  · rw [step_line_tickF2 hs he hr hp h1 h2]
    obtain ⟨a1, w1, rfl, hw1, hb1⟩ := exists_of_lineGood h1
    rw [exec_tickF2 he hr hp hw1 h2]
    obtain ⟨a2, rfl, hb2⟩ := exists_of_lineBad h2
    have hev : lineEvents true (some a1) (some a2) r3 = [.tick, .answer a1, .answer a2] := by
      simp [lineEvents, hb1, hb2]
    rw [hev]
    refine (runSteps_read2 1 hs hr hp hw1).trans ?_
    rw [runSteps_one]
    exact (midTick_read2 s w1).step_bad hs hr hrest (.inr (.inl ⟨rfl, rfl⟩)) hb2
  · rw [step_line_tickF3 hs he hr hp h1 h2 h3]
    obtain ⟨a1, w1, rfl, hw1, hb1⟩ := exists_of_lineGood h1
    obtain ⟨a2, w2, rfl, hw2, hb2⟩ := exists_of_lineGood h2
    rw [exec_tickF3 he hr hp hw1 hw2 h3]
    obtain ⟨a3, rfl, hb3⟩ := exists_of_lineBad h3
    have hev : lineEvents true (some a1) (some a2) (some a3) = [.tick, .answer a1, .answer a2, .answer a3] := by
      simp [lineEvents, hb1, hb2]
    rw [hev]
    refine (runSteps_read3 1 hs hr hp hw1 hw2).trans ?_
    rw [runSteps_one]
    exact (midTick_read3 s w1 w2).step_bad hs hr hrest (.inr (.inr ⟨rfl, rfl⟩)) hb3

/-- The one small step of a line that a terminated block takes (R145). -/
theorem runSteps_lineEvents_of_terminated (hs : s.opSel = none) (he : s.env = .tickLine r1 r2 r3 :: rest)
    (hr : s.run = false) :
    runSteps (lineEvents false r1 r2 r3).length { s with env := lineEvents false r1 r2 r3 ++ rest } = step s := by
  rw [step_line_terminated hs he hr, State.dropEvent_of_cons he]
  exact (runSteps_one _).trans (step_terminated (s := { s with env := .tick :: rest }) hs hr nofun)

end

/-- Settles O58: a line that has a step fails, succeeds, or meets a terminated block. -/
theorem smallStepsAgreeWithMacroStep : Obligations.SmallStepsAgreeWithMacroStep := by
  intro s t r1 r2 r3 rest hs hp he h
  rw [← h]
  by_cases hr : s.run = true
  · have hev : lineEvents s.run r1 r2 r3 = lineEvents true r1 r2 r3 := by rw [hr]
    rw [hev]
    cases hg : lineSucceeds r1 r2 r3 with
    | true => exact runSteps_lineEvents_of_succeeds hs he hr hp hg
    | false =>
      cases hf : lineFails r1 r2 r3 with
      | true => exact runSteps_lineEvents_of_fails hs he hr hp hf
      | false =>
        rw [step_line_unanswered hs he hr hp (lineOutcome_eq_none hg hf)] at h
        cases h
  · rw [Bool.not_eq_true] at hr
    have hev : lineEvents s.run r1 r2 r3 = lineEvents false r1 r2 r3 := by rw [hr]
    rw [hev]
    exact runSteps_lineEvents_of_terminated hs he hr

end Sys2Proof.Machine
end

section
/-! A table word placed for the next step (log 8, 9): the state built for it selects exactly its selector. -/

namespace Sys2Proof.Machine

/-! ### The answers placed for an outcome word (R93) -/

theorem lineBad_answerOfBit (e : Bool) (n : Nat) : lineBad (some (answerOfBit e n)) n = e := by
  cases e with
  | true => rfl
  | false => simp [lineBad, answerOfBit, zeroAnswer, Answer.bad]

/-- Answers placed by their `e` bits give back the outcome word they were placed for. -/
theorem lineOutcome_answerOfBit (run e1 e2 e3 : Bool) :
    lineOutcome run (some (answerOfBit e1 18)) (some (answerOfBit e2 3)) (some (answerOfBit e3 20)) =
      some (outcomeWord run e1 e2 e3) := by
  simp only [lineOutcome, blk1Len, blk2Len, blk3Len, lineBad_answerOfBit, Option.isNone_some, Bool.false_eq_true,
    if_false]
  cases run with
  | false => rfl
  | true =>
    cases e1 with
    | true => rfl
    | false => cases e2 <;> rfl

theorem select_placeSel_outcome (s : State) {w : SelWord} (hw : w.toNat < 16) :
    select (placeSel s ⟨.outcome, w⟩) = .op ⟨.outcome, w⟩ := by
  have hline := lineOutcome_answerOfBit (w.getLsbD 3) (w.getLsbD 2) (w.getLsbD 1) (w.getLsbD 0)
  rw [outcomeWord_bits hw] at hline
  simp only [placeSel, hw, if_true, select, selectEvent, blk1Len, blk2Len, blk3Len, ne_eq, not_true_eq_false,
    decide_false, Bool.and_false, Bool.false_eq_true, if_false, hline]

/-! ### The other formats -/

theorem select_placeSel_request (s : State) {w : SelWord} (hw : w = 0x310012#24 ∨ w = 0x320003#24 ∨ w = 0x330014#24) :
    select (placeSel s ⟨.request, w⟩) = .op ⟨.request, w⟩ := by
  rcases hw with rfl | rfl | rfl <;> rfl

theorem select_placeSel_presented (s : State) {sel : Sel} (h : sel.fmt = .sinkPort ∨ sel.fmt = .microStep) :
    select (placeSel s sel) = .op sel := by
  obtain ⟨fmt, w⟩ := sel
  rcases h with h | h <;> cases h
  · rfl
  · simp only [placeSel]
    split <;> rfl

/-- Whatever word names an operation, the state it is placed in selects it. -/
theorem select_placeSel (s : State) {sel : Sel} {i : Instr} (h : decode sel = .ok i) :
    select (placeSel s sel) = .op sel := by
  have hwf := (legalSelectorsAreDecoded sel).2 ⟨i, h⟩
  obtain ⟨fmt, w⟩ := sel
  cases fmt with
  | request => exact select_placeSel_request s (of_decide_eq_true hwf)
  | sinkPort => exact select_placeSel_presented s (.inl rfl)
  | microStep => exact select_placeSel_presented s (.inr rfl)
  | outcome =>
    have hle : w.toNat ≤ 15 := of_decide_eq_true hwf
    exact select_placeSel_outcome s (by omega)

theorem decode_tableSel {nbits w : Nat} {i : Instr} (h : decodeTableWord nbits w = some i) :
    decode (tableSel nbits w) = .ok i := by
  unfold decodeTableWord at h
  split at h
  · split at h <;> cases h
    assumption
  · cases h

/-- Settles O45: the placed state selects the word, and the step runs what it decodes to. -/
theorem placedWordRunsNext : Obligations.PlacedWordRunsNext := by
  intro s nbits w i h
  have hdec := decode_tableSel h
  exact step_of_select_op (select_placeSel s hdec) hdec

end Sys2Proof.Machine
end

section
/-! Format PS (R88) and the status register (R85, R86) of 30_encoding.md, bit by bit. -/

namespace Sys2Proof

/-! ### When an OR is a sum -/

/-- Bits that both numbers have are what the sum has beyond the OR. -/
theorem or_add_and (a b : Nat) : (a ||| b) + (a &&& b) = a + b := by
  induction a using Nat.strongRecOn generalizing b with
  | ind a ih =>
    rcases Nat.eq_zero_or_pos a with rfl | ha
    · rw [Nat.zero_or, Nat.zero_and, Nat.zero_add, Nat.add_zero]
    · have hhalf := ih (a / 2) (Nat.div_lt_self ha (by decide)) (b / 2)
      rw [← Nat.or_div_two, ← Nat.and_div_two] at hhalf
      have hor := Nat.or_mod_two_eq_one (a := a) (b := b)
      have hand := Nat.and_mod_two_eq_one (a := a) (b := b)
      omega

theorem or_eq_add_iff (a b : Nat) : a ||| b = a + b ↔ a &&& b = 0 := by
  have h := or_add_and a b
  omega

/-- A number and another one shifted by 8 share the bits that the first one shifted back shares with the other. -/
theorem and_shiftLeft_eight (a b : Nat) : a &&& (b <<< 8) = ((a >>> 8) &&& b) <<< 8 := by
  apply Nat.eq_of_testBit_eq
  intro i
  by_cases hi : 8 ≤ i <;> simp [hi]

/-! ### The shift-OR pair (R88) -/

/-- R88: 16 bits shifted by 8 stay within 24. -/
theorem pairShiftOr_toNat (lo hi : Word) : (pairShiftOr lo hi).toNat = lo.toNat ||| (hi.toNat <<< 8) := by
  have hhi : hi.toNat <<< 8 < 2 ^ 24 := by
    have hlt := hi.isLt
    omega
  rw [pairShiftOr, BitVec.toNat_or, BitVec.toNat_shiftLeft, BitVec.toNat_setWidth_of_le (show 16 ≤ 24 by decide),
    BitVec.toNat_setWidth_of_le (show 16 ≤ 24 by decide), Nat.mod_eq_of_lt hhi]

/-- Bit `k` of the pair: of `lo` there, or of `hi` 8 places lower. -/
theorem pairShiftOr_getLsbD (lo hi : Word) {k : Nat} (hk : k < 24) :
    (pairShiftOr lo hi).getLsbD k = (lo.getLsbD k || (!decide (k < 8) && hi.getLsbD (k - 8))) := by
  simp [pairShiftOr, hk]

/-- Bits 23:16, above `lo`. -/
theorem pairShiftOr_top (lo hi : Word) : (pairShiftOr lo hi).extractLsb' 16 8 = hi.extractLsb' 8 8 := by
  ext i hlt
  have hlo : lo.getLsbD (16 + i) = false := BitVec.getLsbD_of_ge lo _ (by omega)
  have hge : ¬16 + i < 8 := by omega
  have hsub : 16 + i - 8 = 8 + i := by omega
  rw [BitVec.getElem_extractLsb', BitVec.getElem_extractLsb', pairShiftOr_getLsbD lo hi (by omega), hlo,
    decide_eq_false hge, hsub, Bool.false_or, Bool.not_false, Bool.true_and]

/-- Bits 15:8, where the two overlap. -/
theorem pairShiftOr_middle (lo hi : Word) :
    (pairShiftOr lo hi).extractLsb' 8 8 = (lo.extractLsb' 8 8 ||| hi.extractLsb' 0 8) := by
  ext i hlt
  have hge : ¬8 + i < 8 := by omega
  have hsub : 8 + i - 8 = 0 + i := by omega
  rw [BitVec.getElem_or, BitVec.getElem_extractLsb', BitVec.getElem_extractLsb', BitVec.getElem_extractLsb',
    pairShiftOr_getLsbD lo hi (by omega), decide_eq_false hge, hsub, Bool.not_false, Bool.true_and]

/-- Bits 7:0, below `hi`. -/
theorem pairShiftOr_bottom (lo hi : Word) : (pairShiftOr lo hi).extractLsb' 0 8 = lo.extractLsb' 0 8 := by
  ext i hlt
  have hlow : 0 + i < 8 := by omega
  rw [BitVec.getElem_extractLsb', BitVec.getElem_extractLsb', pairShiftOr_getLsbD lo hi (by omega),
    decide_eq_true hlow, Bool.not_true, Bool.false_and, Bool.or_false]

/-- The upper byte of `lo` has 8 bits, so only the lower byte of `hi` counts. -/
theorem shiftRight_and_low_byte (lo : Word) (b : Nat) : (lo.toNat >>> 8) &&& (b &&& 0xFF) = (lo.toNat >>> 8) &&& b := by
  have hlt : lo.toNat >>> 8 < 2 ^ 8 := by
    have hlo := lo.isLt
    omega
  have hself : (lo.toNat >>> 8) &&& 0xFF = lo.toNat >>> 8 := Nat.and_two_pow_sub_one_of_lt_two_pow hlt
  rw [Nat.and_comm b, ← Nat.and_assoc, hself]

theorem pairShiftOr_eq_sum_iff (lo hi : Word) : (pairShiftOr lo hi).toNat = hi.toNat * 256 + lo.toNat ↔
    (lo.toNat >>> 8) &&& (hi.toNat &&& 0xFF) = 0 := by
  have hsum : hi.toNat * 256 + lo.toNat = lo.toNat + hi.toNat <<< 8 := by rw [Nat.shiftLeft_eq, Nat.add_comm]
  rw [pairShiftOr_toNat, hsum, or_eq_add_iff, and_shiftLeft_eight, Nat.shiftLeft_eq_zero_iff, shiftRight_and_low_byte]

/-- Settles O8: the value, the three bytes of the table, and the sum where no bit is shared. -/
theorem shiftOrByBytes : Obligations.ShiftOrByBytes := fun lo hi =>
  ⟨pairShiftOr_toNat lo hi, pairShiftOr_top lo hi, pairShiftOr_middle lo hi, pairShiftOr_bottom lo hi,
    pairShiftOr_eq_sum_iff lo hi⟩

/-! ### The status register (R85, R86) -/

/-- The fault bit first, then the table by bits 3 and 2. -/
theorem statusState_eq (st : Word) : statusState st =
    if st.getLsbD 1 then .fault
    else if st.getLsbD 3 then (if st.getLsbD 2 then .equalization else .boost)
    else (if st.getLsbD 2 then .float else .off) := by
  rw [statusState, statusFault, statusStage]
  cases st.getLsbD 3 <;> cases st.getLsbD 2 <;> rfl

/-- R96: bits 3:1 are all it reads. -/
theorem statusState_congr {st st' : Word} (h : st.extractLsb' 1 3 = st'.extractLsb' 1 3) :
    statusState st = statusState st' := by
  have hbit : ∀ k < 3, st.getLsbD (1 + k) = st'.getLsbD (1 + k) := by
    intro k hk
    have hk' := congrArg (BitVec.getLsbD · k) h
    simpa only [BitVec.getLsbD_extractLsb', hk, decide_true, Bool.true_and] using hk'
  rw [statusState_eq, statusState_eq, hbit 0 (by decide), hbit 1 (by decide), hbit 2 (by decide)]

/-- Settles O9: row by row of the table, and by the bits that are read. -/
theorem statusTable : Obligations.StatusTable := by
  refine ⟨fun st => ⟨?_, ?_, ?_, ?_, ?_⟩, rfl, rfl, rfl, rfl, rfl, fun _ _ => statusState_congr⟩
  · intro h1 h3 h2; rw [statusState_eq, h1, h3, h2]; rfl
  · intro h1 h3 h2; rw [statusState_eq, h1, h3, h2]; rfl
  · intro h1 h3 h2; rw [statusState_eq, h1, h3, h2]; rfl
  · intro h1 h3 h2; rw [statusState_eq, h1, h3, h2]; rfl
  · intro h1; rw [statusState_eq, h1]; rfl

end Sys2Proof
end

section
/-! Answers (R54), the configuration (R8, R9), and the decoder as a function of configuration and banks (R95, R110 to
R123). -/

namespace Sys2Proof

/-! ### Answers (R54) -/

theorem bad_iff (r : Answer) (n : Nat) : r.bad n = true ↔ r = .err ∨ ∃ ws, r = .ok ws ∧ ws.length ≠ n := by
  cases r with
  | err => simp [Answer.bad]
  | ok ws => simp [Answer.bad]

/-- A good answer hands over exactly its words. -/
theorem words_eq_some_iff {r : Answer} {n : Nat} {v : Vector Word n} : r.words n = some v ↔ r = .ok v.toList := by
  constructor
  · intro h
    cases r with
    | err => cases h
    | ok ws =>
      rw [Answer.words] at h
      split at h
      next => cases h; rfl
      next => cases h
  · intro h
    rw [h, Machine.Answer_words_toList]

/-- Settles O11. -/
theorem badAnswers : Obligations.BadAnswers := fun r n =>
  ⟨bad_iff r n, Machine.Answer_words_eq_none r n, fun _ => words_eq_some_iff⟩

/-! ### The configuration (R8, R9) -/

theorem RawConfig.wf_iff (r : RawConfig) : r.wf = true ↔ r.offDcv < 18 ∧ r.offDci < 18 ∧ r.offDct < 18 ∧
    r.offLdi < 18 ∧ r.offSt < 3 ∧ r.offDyLo < 20 ∧ r.offDyHi < 20 ∧ r.exitStatus ≠ 0 := by
  simp only [RawConfig.wf, Bool.and_eq_true, decide_eq_true_eq, and_assoc]

theorem RawConfig.check_isSome (r : RawConfig) : r.check.isSome = r.wf := by
  rw [Bool.eq_iff_iff, RawConfig.wf_iff, RawConfig.check]
  split
  · exact iff_of_true rfl ‹_›
  · exact iff_of_false nofun ‹_›

/-- The exit status is kept less one, which loses nothing of a number that is not 0. -/
theorem RawConfig.raw_of_check {r : RawConfig} {c : Config} (h : r.check = some c) : c.raw = r := by
  rw [RawConfig.check] at h
  split at h
  next hr =>
    have hsucc : r.exitStatus - 1 + 1 = r.exitStatus := by
      obtain ⟨-, -, -, -, -, -, -, hexit⟩ := hr
      exact Nat.succ_pred hexit
    cases h
    simp only [Config.raw, Config.exitStatus, hsucc]
  next => cases h

theorem Config.raw_wf (c : Config) : c.raw.wf = true :=
  (RawConfig.wf_iff _).2 ⟨c.offDcv.isLt, c.offDci.isLt, c.offDct.isLt, c.offLdi.isLt, c.offSt.isLt, c.offDyLo.isLt,
    c.offDyHi.isLt, Nat.succ_ne_zero _⟩

/-- Settles O6. -/
theorem configCheckMatchesRanges : Obligations.ConfigCheckMatchesRanges :=
  ⟨RawConfig.check_isSome, fun _ _ => RawConfig.raw_of_check, Config.raw_wf⟩

/-! ### The fields of a snapshot, word by word (R112 to R121) -/

/-- R111: a word of bank 1 at an offset parameter, as every field operation reads it. -/
theorem clampBank_offset_toNat (b1 : Vector Word 18) (k : Fin 18) :
    (clampBank b1)[k].toNat = if k.val = 0 then max b1[0].toNat 1 else b1[k].toNat := by
  rw [Machine.clampBank_get, apply_ite BitVec.toNat, Machine.clampWord_toNat]

theorem fieldPvv_toNat (b1 : Vector Word 18) : (fieldPvv (clampBank b1)).toNat = max b1[0].toNat 1 := by
  rw [fieldPvv, clampBank_getElem_zero, Machine.clampWord_toNat]

theorem fieldYp_toNat (b1 : Vector Word 18) :
    (fieldYp (clampBank b1)).toNat = b1[3].toNat * 65536 + b1[2].toNat := by
  rw [fieldYp_clampBank, pairMulAdd_toNat]

/-- Settles O12: field by field, on the clamped bank 1. -/
theorem decoderFieldRules : Obligations.DecoderFieldRules := fun c b1 _ _ =>
  ⟨clampBank_offset_toNat b1 c.offDcv, clampBank_offset_toNat b1 c.offDci, clampBank_offset_toNat b1 c.offDct,
    fieldPvv_toNat b1, fieldYp_toNat b1, clampBank_offset_toNat b1 c.offLdi, statusState_eq _, rfl,
    pairShiftOr_toNat _ _, rfl⟩

/-- CLAMP mixes no two words. -/
theorem clampBank_congr {b1 b1' : Vector Word 18} {k : Fin 18} (h0 : b1[0] = b1'[0]) (hk : b1[k] = b1'[k]) :
    (clampBank b1)[k] = (clampBank b1')[k] := by
  rw [Machine.clampBank_get, Machine.clampBank_get, h0, hk]

/-- Settles O13: each field reads one word of a bank, or two. -/
theorem decoderReadsOnlyItsWords : Obligations.DecoderReadsOnlyItsWords := by
  intro c b1 b1' b2 b2' b3 b3' h1 h2 hlo hhi
  have h0 : b1[0] = b1'[0] := h1 0 (.inl rfl)
  have hdcv : fieldDcv c (clampBank b1) = fieldDcv c (clampBank b1') := clampBank_congr h0 (h1 _ (by simp))
  have hdci : fieldDci c (clampBank b1) = fieldDci c (clampBank b1') := clampBank_congr h0 (h1 _ (by simp))
  have hdct : fieldDct c (clampBank b1) = fieldDct c (clampBank b1') := clampBank_congr h0 (h1 _ (by simp))
  have hldi : fieldLdi c (clampBank b1) = fieldLdi c (clampBank b1') := clampBank_congr h0 (h1 _ (by simp))
  have hpvv : fieldPvv (clampBank b1) = fieldPvv (clampBank b1') := clampBank_congr (k := 0) h0 h0
  have hyp : fieldYp (clampBank b1) = fieldYp (clampBank b1') := by
    rw [fieldYp_clampBank, fieldYp_clampBank]
    exact congrArg₂ pairMulAdd (h1 2 (.inr (.inl rfl))) (h1 3 (.inr (.inr (.inl rfl))))
  have hst : fieldSt c b2 = fieldSt c b2' := congrArg statusState h2
  have hdy : fieldDy c b3 = fieldDy c b3' := congrArg₂ pairShiftOr hlo hhi
  rw [decodeBanks, decodeBanks, hdcv, hdci, hdct, hldi, hpvv, hyp, hst, hdy]

end Sys2Proof

namespace Sys2Proof.Machine

/-! ### Blocks of any length (R123, R173) -/

theorem words_ok_eq_none_iff (ws : List Word) (n : Nat) : (Answer.ok ws).words n = none ↔ ws.length ≠ n := by
  rw [Answer_words_eq_none]
  exact decide_eq_true_iff

theorem length_of_words_ok {ws : List Word} {n : Nat} {v : Vector Word n} (h : (Answer.ok ws).words n = some v) :
    ws.length = n := by
  cases words_eq_some_iff.1 h
  exact v.length_toList

/-- A wrong length is refused, whichever block has it. -/
theorem decodeBlocks_eq_error_iff (c : Config) (w1 w2 w3 : List Word) :
    decodeBlocks c w1 w2 w3 = .error .preconditionViolation ↔
      ¬(w1.length = 18 ∧ w2.length = 3 ∧ w3.length = 20) := by
  rw [decodeBlocks]
  cases hw1 : (Answer.ok w1).words blk1Len with
  | none => exact iff_of_true rfl fun h => (words_ok_eq_none_iff w1 18).1 hw1 h.1
  | some b1 =>
    cases hw2 : (Answer.ok w2).words blk2Len with
    | none => exact iff_of_true rfl fun h => (words_ok_eq_none_iff w2 3).1 hw2 h.2.1
    | some b2 =>
      cases hw3 : (Answer.ok w3).words blk3Len with
      | none => exact iff_of_true rfl fun h => (words_ok_eq_none_iff w3 20).1 hw3 h.2.2
      | some b3 =>
        exact iff_of_false nofun (not_not_intro
          ⟨length_of_words_ok hw1, length_of_words_ok hw2, length_of_words_ok hw3⟩)

/-- Settles O14. -/
theorem decodeBlocksNeedExactLengths : Obligations.DecodeBlocksNeedExactLengths :=
  ⟨decodeBlocks_eq_error_iff, fun c b1 b2 b3 => by simp only [decodeBlocks, Answer_words_toList]⟩

end Sys2Proof.Machine
end

section
/-! The single operations of 40_decode_ops.md and 41_pollcycle_ops.md on their operands and without them, the ports, and
the reset state. -/

namespace Sys2Proof

/-! ### Scaled values and ports (R12, R35, R89) -/

theorem scaledValue_lt_iff {w : Nat} (a b : Scaled w) : scaledValue a < scaledValue b ↔ a.toNat < b.toNat := by
  have hdiv : (0 : ℚ) < (scaleDiv : ℚ) := by norm_num [scaleDiv]
  rw [scaledValue, scaledValue, div_lt_div_iff_of_pos_right hdiv, Nat.cast_lt]

theorem scaledValue_mul (w : Nat) (a : Scaled w) : scaledValue a * 100 = (a.toNat : ℚ) :=
  div_mul_cancel₀ _ (by norm_num : (100 : ℚ) ≠ 0)

/-- R35: there is no port from 11 on. -/
theorem port_eq_none (b : Bundle) {q : Nat} (h : 11 ≤ q) : b.port q = none := by
  obtain ⟨k, rfl⟩ := Nat.exists_eq_add_of_le' h
  rfl

/-- The ten fields and the peak by their port, whatever the bundle: which are in format SC. -/
theorem port_scaled_iff (b : Bundle) (q : Nat) :
    (∃ n d, b.port q = some (.scaled n d)) ↔ q ∈ [0, 1, 2, 3, 4, 5, 8, 10] := by
  by_cases hq : 11 ≤ q
  · rw [port_eq_none b hq]
    refine iff_of_false nofun ?_
    simp only [List.mem_cons, List.not_mem_nil, or_false]
    omega
  · interval_cases q <;> simp [Bundle.port, scaledPort]

theorem port_divisor {b : Bundle} {q n d : Nat} (h : b.port q = some (.scaled n d)) : d = 100 := by
  have hq := (port_scaled_iff b q).1 ⟨n, d, h⟩
  simp only [List.mem_cons, List.not_mem_nil, or_false] at hq
  rcases hq with rfl | rfl | rfl | rfl | rfl | rfl | rfl | rfl <;> cases h <;> rfl

/-- Settles O10: division by 100 keeps the order and loses nothing; the ports by R35. -/
theorem scaledOrderIsNumeratorOrder : Obligations.ScaledOrderIsNumeratorOrder :=
  ⟨fun _ a b => ⟨scaledValue_lt_iff a b, scaledValue_mul _ a, Machine.scaledPort_denotes a⟩,
    fun b q => ⟨port_scaled_iff b q, fun _ _ => port_divisor⟩⟩

end Sys2Proof

namespace Sys2Proof.Machine

/-! ### Field operations on written banks (R112 to R120) -/

/-- Settles O18: each field is the word at its offset of the clamped bank. -/
theorem scalarChannelsCopyTheirWord : Obligations.ScalarChannelsCopyTheirWord := fun s h =>
  ⟨⟨_, clampBank_offset_toNat s.b1 _, exec_decDcv h⟩, ⟨_, clampBank_offset_toNat s.b1 _, exec_decDci h⟩,
    ⟨_, clampBank_offset_toNat s.b1 _, exec_decDct h⟩, ⟨_, clampBank_offset_toNat s.b1 _, exec_decLdi h⟩⟩

/-- Settles O21. -/
theorem operatingStateFaultFirst : Obligations.OperatingStateFaultFirst := fun _ h =>
  ⟨_, statusState_eq _, exec_decSt h⟩

/-- Settles O23. -/
theorem dailyYieldIsShiftOr : Obligations.DailyYieldIsShiftOr := fun _ h =>
  ⟨_, pairShiftOr_toNat _ _, exec_decDy h⟩

/-! ### Missing operands (R23, log 3, 4) -/

theorem withBank1_of_unwritten {s : State} (h : s.b1w = false) (f : Vector Word 18 → Result) :
    withBank1 s f = .refused .bankNotWritten := if_neg (by simp [h])

theorem withBank2_of_unwritten {s : State} (h : s.b2w = false) (f : Vector Word 3 → Result) :
    withBank2 s f = .refused .bankNotWritten := if_neg (by simp [h])

theorem withBank3_of_unwritten {s : State} (h : s.b3w = false) (f : Vector Word 20 → Result) :
    withBank3 s f = .refused .bankNotWritten := if_neg (by simp [h])

theorem decodeOp_of_unwritten {s : State} (h : (s.b1w && s.b2w && s.b3w) = false) :
    decodeOp s = .refused .bankNotWritten := if_neg (by simp [h])

/-- Without a snapshot there is no bundle, whatever the peak. -/
theorem bundle_eq_none {d : Draft} (h : d.snapshot = none) : d.bundle = none := by
  simp only [Draft.bundle, h]

theorem bundle_eq_some {d : Draft} {p : Snapshot} {m : Scaled 32} (h : d.snapshot = some p)
    (hm : d.maxPowerToday = some m) : d.bundle = some ⟨p, m⟩ := by
  simp only [Draft.bundle, h, hm]

/-- OUT.MAXP writes port 10 alone. -/
theorem outMaxpOp_snapshot (s : State) : (outMaxpOp s).draft.snapshot = s.draft.snapshot := rfl

theorem outMaxpOp_maxPowerToday (s : State) : (outMaxpOp s).draft.maxPowerToday = some s.maxp := rfl

/-- Settles O24: each reader of a bank asks for its mark first, PEAK and PUB for the snapshot. -/
theorem missingOperandsAreRefused : Obligations.MissingOperandsAreRefused := by
  refine ⟨fun s i h hi => ?_, fun s i h hi => ?_, fun s i h hi => ?_, fun s h => ?_, fun s h => ?_⟩
  · simp only [List.mem_cons, List.not_mem_nil, or_false] at hi
    rcases hi with rfl | rfl | rfl | rfl | rfl | rfl | rfl | rfl
    · exact if_neg (by simp [h])
    · rw [exec, execDecDcv, withBank1_of_unwritten h]
    · rw [exec, execDecDci, withBank1_of_unwritten h]
    · rw [exec, execDecDct, withBank1_of_unwritten h]
    · rw [exec, execDecPvv, withBank1_of_unwritten h]
    · rw [exec, execDecYp, withBank1_of_unwritten h]
    · rw [exec, execDecLdi, withBank1_of_unwritten h]
    · exact decodeOp_of_unwritten (by simp [h])
  · simp only [List.mem_cons, List.not_mem_nil, or_false] at hi
    rcases hi with rfl | rfl
    · rw [exec, execDecSt, withBank2_of_unwritten h]
    · exact decodeOp_of_unwritten (by simp [h])
  · simp only [List.mem_cons, List.not_mem_nil, or_false] at hi
    rcases hi with rfl | rfl
    · rw [exec, execDecDy, withBank3_of_unwritten h]
    · exact decodeOp_of_unwritten (by simp [h])
  · simp only [exec, execPeak, peakOp, h]
  · simp only [exec, execPub, publishOp, bundle_eq_none ((outMaxpOp_snapshot s).trans h)]

/-! ### The failure counter and termination (R146 to R148) -/

theorem fcIncrement_of_lt {s : State} (h : s.fc.toNat < 3) :
    fcIncrement s = s.setFc (s.fc + 1) ∧ (s.fc + 1).toNat = s.fc.toNat + 1 := by
  have hne : s.fc ≠ 3 := fun heq => absurd h (by rw [heq]; decide)
  exact ⟨if_neg hne, by bv_omega⟩

/-- Settles O25: below 3 the sum fits the two bits; from 3 the value is the free one. -/
theorem failureCounterOperations : Obligations.FailureCounterOperations := by
  refine ⟨fun s h => ?_, fun s h => ⟨_, congrArg _ (if_pos h)⟩, fun s => rfl⟩
  obtain ⟨hinc, hsum⟩ := fcIncrement_of_lt h
  exact ⟨_, hsum, congrArg _ hinc⟩

/-- Settles O26: the two cases of the threshold test. -/
theorem haltchkAtThreshold : Obligations.HaltchkAtThreshold := by
  refine ⟨fun s h => ?_, fun s h => ?_⟩
  · exact congrArg _ (if_pos (decide_eq_true h))
  · exact congrArg _ (if_neg (by rw [haltDue, decide_eq_true_iff]; exact Nat.not_le.2 h))

/-! ### The peak on port 10 and the publish (R150, R155) -/

/-- Settles O28. -/
theorem outMaxpShowsPeak : Obligations.OutMaxpShowsPeak := by
  intro s d hd
  subst hd
  exact ⟨rfl, fun p hp => ⟨⟨p, s.maxp⟩, bundle_eq_some hp rfl, rfl, rfl⟩⟩

/-- R150: with a snapshot of this tick PUB publishes it with MAXP. -/
theorem exec_pub {s : State} {p : Snapshot} (h : s.draft.snapshot = some p) :
    exec .pub s = .next (((outMaxpOp s).emit (.pub ⟨p, s.maxp⟩)).setSnk ⟨p, s.maxp⟩) := by
  have hb : (outMaxpOp s).draft.bundle = some ⟨p, s.maxp⟩ := bundle_eq_some h (outMaxpOp_maxPowerToday s)
  simp only [exec, execPub, publishOp, hb]

/-- Settles O29: PUB's next state, and the ports of its sink one by one. -/
theorem pubPublishesBundle : Obligations.PubPublishesBundle := by
  intro s t p hp ht
  subst ht
  refine ⟨exec_pub hp, rfl, rfl, rfl, rfl, rfl, rfl, rfl, ?_, rfl, rfl, rfl, rfl, fun q hq => port_eq_none _ hq⟩
  cases hst : p.operatingState <;> simp [State.sinkPort, Bundle.port, PortValue.number, hst, OpState.code]

/-! ### The reset state (R41) -/

/-- Settles O1: the fields of the reset state; no port shows a value before the first publish. -/
theorem resetLeavesSpecValues : Obligations.ResetLeavesSpecValues :=
  ⟨rfl, rfl, rfl, rfl, rfl, rfl, rfl, rfl, rfl, rfl, State.sinkPort_of_not_held rfl⟩

/-- Settles O47: nothing has happened yet, so every invariant is at its start. -/
theorem resetMeetsInvariants : Obligations.ResetMeetsInvariants :=
  ⟨controlInv_applyReset State.reset, peakInv_applyReset State.reset, rfl, orderInv_of_idle rfl rfl⟩

end Sys2Proof.Machine
end
